-- ==== Sys2Proof/Word.lean ====
section
/-! DEFINITION. The words of the machine: bytes, command words and the data of a response (R60, R61). -/

namespace Sys2Proof

/-- A byte (R5's notation: 8 bits). -/
abbrev Byte := BitVec 8

/-- A command word on the command port: opcode in bits 71..64, operand in bits 63..0 (R61). -/
abbrev CmdWord := BitVec 72

/-- The operand field of a command word (R61). -/
abbrev Operand := BitVec 64

/-- The data field of a response (R63), and a record seen as one value (R67). -/
abbrev Data := BitVec 72

/-- A whole response word: status in bits 79..72, data in bits 71..0 (R63). -/
abbrev RspWord := BitVec 80

end Sys2Proof
end

