-- ==== Sys2Proof/Config.lean ====
section
/-! DEFINITION. What the source fixes (R5), the parameters it leaves open (R6), and the free values: the choices of the
environment, constants without a body, so that nothing in Lean can evaluate them. -/

namespace Sys2Proof

/-- The open parameters of R6. The host fixes them before reset release (R212) and no step changes them.
`itValue`, `gainValue`, `adcChannel`, `adcGain`, `adcReference` are opaque to the block and only passed on (log 19). -/
structure Params where
  serviceId : BitVec 16
  pwrRegAddr : BitVec 8
  sdMask : BitVec 16
  tStartUs : Nat
  tIntUs : Nat
  itValue : Nat
  gainValue : Nat
  adcChannel : Nat
  adcGain : Nat
  adcReference : Nat
  adcResBits : Nat
  adcRefMv : Nat
  adcDivider : Nat
deriving DecidableEq, Repr, Inhabited

/-- Exactly one bit of the 16 is set: R6's constraint on `SD_MASK`. -/
def oneBitSet (m : BitVec 16) : Bool :=
  (List.range 16).any fun i => m == BitVec.twoPow 16 i

/-- The constraints of R6, all of them. -/
def Params.ok (p : Params) : Bool :=
  oneBitSet p.sdMask
    && decide (2500 ≤ p.tStartUs)
    && decide (0 < p.tIntUs)
    && decide (1 ≤ p.adcResBits)
    && decide (p.adcResBits ≤ 15)
    && decide (0 < p.adcRefMv)
    && decide (0 < p.adcDivider)
    && decide (32768 * p.adcRefMv * p.adcDivider / (2 ^ p.adcResBits - 1) < 2 ^ 31)

/-- The example values of R6's table, used by the spec's test vectors; no claim about the hardware. -/
def Params.sample : Params where
  serviceId := 0xFCD2
  pwrRegAddr := 0x00
  sdMask := 0x0001
  tStartUs := 2500
  tIntUs := 100000
  itValue := 0
  gainValue := 0
  adcChannel := 0
  adcGain := 0
  adcReference := 0
  adcResBits := 12
  adcRefMv := 3600
  adcDivider := 1

/-- How a collaborator call ends: with its good answer (`ok`, `ok(v)`, `true`), with its bad one (`fail`, `false`), or not at all
(R196, R221). -/
inductive Reply where
  | ok
  | fail
  | never
deriving DecidableEq, Repr, Inhabited

/-- One choice of the environment. It settles one step, or one collaborator call in it: how long it takes, what another agent
writes to the sensor's power-control register meanwhile (R20, R218), how the call ends, and the value it carries
where it is `SensorGetLux` (`lux`, int64 microlux) or `AdcReadRaw` (`raw`, int16). -/
structure Draw where
  elapsed : Nat
  rewrite : Option (BitVec 16)
  reply : Reply
  lux : BitVec 64
  raw : BitVec 16
deriving DecidableEq, Repr, Inhabited

namespace Config

/-- `REC_LEN` (R5): the record's size in bytes. -/
def recLen : Nat := 9

/-- `DEVICE_INFO` (R5): record byte 2. -/
def deviceInfo : Byte := 0x40

/-- `LUX_MARKER` (R5): record byte 3. -/
def luxMarker : Byte := 0x05

/-- `BATT_MARKER` (R5): record byte 7. -/
def battMarker : Byte := 0x01

/-- `BATT_UNKNOWN` (R5): the battery byte that means unknown or read failure. -/
def battUnknown : Byte := 0xFF

/-- `LUX_MAX` (R5): the clamp of the centilux value. -/
def luxMax : Int := 0xFFFFFF

/-- `LUX_ROUND` (R5): the rounding addend, microlux. -/
def luxRound : Int := 5000

/-- `LUX_DIV` (R5): microlux per centilux. -/
def luxDiv : Int := 10000

/-- `T_MARGIN_US` (R5): the margin of the second settle delay. -/
def tMarginUs : Nat := 50000

/-- `PERIOD_US` (R5): the sleep after `DEACTIVATING`. -/
def periodUs : Nat := 5000000

/-- Free value (log 2): the parameters someone chose, unconstrained. -/
opaque freeParams : Params

/-- The parameters of the machine: the free choice where it meets R6's constraints. A choice that breaks them is one the host may not
make (R213); the example values stand in for it, so that every admissible choice, and nothing else, is possible (log 2). -/
def params : Params := if freeParams.ok then freeParams else Params.sample

/-- Free value (log 1): the `n`-th choice of the environment. -/
opaque freeDraw : Nat → Draw

/-- Free value (log 3): the sensor's power-control register at reset release (U9, N5). -/
opaque freePhysReg : BitVec 16

/-- Free value (log 3): the environment's clock at reset release (R210). -/
opaque freeNow : Nat

end Config

end Sys2Proof
end

