-- ==== Sys2Proof/Syntax.lean ====
section
/-! DEFINITION. The nine commands (R64), one constructor per row of the opcode table, with the operands of their formats (R61). -/

namespace Sys2Proof

/-- The commands. Operand fields are the bits of R61 as they stand (R62). -/
inductive Instr where
  /-- `INIT` (R101), format N. -/
  | init
  /-- `ACTIVATE` (R106), format N. -/
  | activate
  /-- `DEACTIVATE` (R113), format N. -/
  | deactivate
  /-- `SAMPLE_LUX` (R115), format N. -/
  | sampleLux
  /-- `ENC_LUX microlux` (R80), format L: a signed 64-bit number of microlux. -/
  | encLux (microlux : BitVec 64)
  /-- `ENC_BATT percent` or `ENC_BATT unknown` (R83), format P. -/
  | encBatt (unknown : Bool) (percent : BitVec 8)
  /-- `BUILD_REC lux, batt` (R86), format B. -/
  | buildRec (lux : BitVec 24) (batt : BitVec 8)
  /-- `READ_MV` (R130), format N. -/
  | readMv
  /-- `EST_PCT mv` (R133), format M: a signed 32-bit number of millivolts. -/
  | estPct (mv : BitVec 32)
deriving DecidableEq, Repr

end Sys2Proof
end

