-- ==== Sys2Proof/Machine/State.lean ====
section
/-! DEFINITION. The state of the machine (R10: the complete list), the ports (R60, R211), the configuration (R6) and the model's own
fields; its faults and refusals; the state after reset (R210). Everything is plain data. -/

namespace Sys2Proof.Machine

/-- `ctl`, the lifecycle register of the core (R11). -/
inductive Ctl where
  | uninit
  | ready
  | fatal
deriving DecidableEq, Repr

/-- `pstate`, the sensor power state (R12). -/
inductive PState where
  | off
  | warming
  | active
deriving DecidableEq, Repr

/-- `wstage`, the stage of the warm-up timer (R15): `W_NONE`, `W1`, `W2`. -/
inductive WStage where
  | wNone
  | w1
  | w2
deriving DecidableEq, Repr

/-- `phase`, the sequencer's phase register (R17). -/
inductive Phase where
  | boot
  | idle
  | activating
  | samplingLux
  | samplingBattery
  | encoding
  | publishing
  | deactivating
  | sleeping
  | halted
deriving DecidableEq, Repr

/-- The status of a response (R65). -/
inductive Status where
  | ok
  | notReady
  | configFailed
  | writeFailed
  | fetchFailed
  | readFailed
  | notActive
  | adcFailed
  | contractViolation
  | illegalCommand
deriving DecidableEq, Repr

/-- A response: its status and its 72 data bits (R63). -/
structure Response where
  status : Status
  data : Data
deriving DecidableEq, Repr

/-- The attribute of a `CfgSet` call (R102): `ATTR_IT` or `ATTR_GAIN`. -/
inductive CfgAttr where
  | integrationTime
  | gain
deriving DecidableEq, Repr

/-- The collaborator calls (R196) with their arguments. `Now()` is a read of the clock, not a call here, and `Log` has no effect
(R198). -/
inductive Call where
  | devReady
  | cfgSet (attr : CfgAttr) (val : Nat)
  | busWrite (addr : BitVec 8) (v : BitVec 16)
  | busRead (addr : BitVec 8)
  | sensorFetch
  | sensorGetLux
  | adcReadRaw (channel resBits gain reference : Nat)
  | publish (bytes : List Byte)
deriving DecidableEq, Repr

/-- A call in the history: what was called, how it ended, and when. -/
structure Event where
  call : Call
  reply : Reply
  time : Nat
deriving DecidableEq, Repr

/-- Where the sequencer is in the pseudocode of `ENCODING` (R160), with that pseudocode's locals (log 16). -/
inductive EncStep where
  /-- The lux bytes come next. -/
  | lux
  /-- The lux bytes are `l`; the percentage comes next. -/
  | percent (l : BitVec 24)
  /-- The percentage is known or is not; the battery byte comes next. -/
  | battery (l : BitVec 24) (pct : Option Byte)
  /-- The battery byte is `b`; the record comes next. -/
  | build (l : BitVec 24) (b : Byte)
deriving DecidableEq, Repr

/-- Who drives the command port: the sequencer (R2), or the host with the words it still has to issue (R213; log 13, 17). -/
inductive Driver where
  | sequencer
  | host (words : List CmdWord)
deriving DecidableEq, Repr

/-- The record buffer: the bytes at offsets 0..8 that differ from the reset contents, offsets strictly rising (log 14). -/
abbrev Memory := List Host.Cell

/-- The state. -/
@[ext]
structure State where
  /-- `ctl` (R11). -/
  ctl : Ctl
  /-- `pstate` (R12). -/
  pstate : PState
  /-- `cache` (R13): 16 bits, or unwritten. -/
  cache : Option (BitVec 16)
  /-- `fatal_code` (R14). -/
  fatalCode : BitVec 8
  /-- `wstage` (R15). -/
  wstage : WStage
  /-- `w_deadline` (R15). -/
  wDeadline : Nat
  /-- `busy` (R19). -/
  busy : Bool
  /-- `cur` (R19). -/
  cur : CmdWord
  /-- The command port: the word offered, if one is (`cmd_valid`, `cmd`; R60). -/
  cmd : Option CmdWord
  /-- The response port: the response, if one is driven (`rsp_valid`, `rsp`; R60). -/
  rsp : Option Response
  /-- `rec[0..8]` (R16). -/
  record : Memory
  /-- `phase` (R17). -/
  phase : Phase
  /-- `s_lux` (R18). -/
  sLux : Option (BitVec 64)
  /-- `s_mv` (R18). -/
  sMv : Option (BitVec 32)
  /-- `t_wake` (R18). -/
  tWake : Nat
  /-- `phys_reg` (R20), the environment's. -/
  physReg : BitVec 16
  /-- `now` (R20), the environment's. -/
  now : Nat
  /-- The parameters (R6); no step changes them (R212). -/
  params : Params
  /-- The reset input (R211). -/
  resetIn : Bool
  /-- Model's own: who drives the port. -/
  driver : Driver
  /-- Model's own: the place in `ENCODING`. -/
  enc : EncStep
  /-- Model's own: a call that was made and is never answered (R221). -/
  pending : Option Call
  /-- Model's own: choices of the environment already decided, next first. -/
  script : List Draw
  /-- Model's own: how many choices have been drawn. -/
  drawn : Nat
  /-- Model's own: the calls made so far, newest first. -/
  trace : List Event
deriving DecidableEq, Repr

/-- Why a step stops. -/
inductive Fault where
  /-- Raised by a step of a machine whose `INIT` failed (`ctl = FATAL`, or `phase = HALTED` beside it), reset not asserted: "stuck and
  faulted", nothing is accepted until reset (R104, R165, U5). It carries `fatal_code`. Safe: the machine does nothing more. -/
  | initFailed (code : BitVec 8)
  /-- Raised by the sequencer where the port answers its command with a status its phase rule does not list (R151, R153, R160, R163).
  The model's own, and never reached from a state of the invariant (log 8). Safe: it only stops. -/
  | unexpectedResponse
deriving DecidableEq, Repr

/-- Why an instruction has no meaning. -/
inductive Refusal where
  /-- Raised by a rejected arm of `exec`, of which there is none: every command of the table has its meaning. Safe. -/
  | notModelled (mnemonic : String)
deriving DecidableEq, Repr

/-- The machine right after reset release with parameters `p` (R210). The hidden registers the spec leaves unspecified hold 0 (log 4); the
environment's `phys_reg` and `now` are free (log 3); the record buffer lists nothing, so it reads as its reset contents (log 14). -/
def State.resetWith (p : Params) : State where
  ctl := .uninit
  pstate := .off
  cache := none
  fatalCode := 0x00
  wstage := .wNone
  wDeadline := 0
  busy := false
  cur := 0
  cmd := none
  rsp := none
  record := []
  phase := .boot
  sLux := none
  sMv := none
  tWake := 0
  physReg := Config.freePhysReg
  now := Config.freeNow
  params := p
  resetIn := false
  driver := .sequencer
  enc := .lux
  pending := none
  script := []
  drawn := 0
  trace := []

/-- The machine right after reset, whatever admissible parameters the host fixed (R210, R212). -/
def State.reset : State := State.resetWith Config.params

end Sys2Proof.Machine
end

