-- ==== Sys2Proof/Machine/Flags.lean ====
section
/-! DEFINITION. There are no condition codes (R22): a command reports its outcome in its response. This file holds the status numbers
(R65), their classes (R181), the response word (R63) and the numeric encodings of the state machine registers (R11, R12, R17). -/

namespace Sys2Proof.Machine

/-- The status number (R65). -/
def Status.code : Status → BitVec 8
  | .ok => 0x00
  | .notReady => 0x01
  | .configFailed => 0x02
  | .writeFailed => 0x03
  | .fetchFailed => 0x04
  | .readFailed => 0x05
  | .notActive => 0x06
  | .adcFailed => 0x07
  | .contractViolation => 0x0E
  | .illegalCommand => 0x0F

/-- The classes of statuses (R181). -/
inductive StatusClass where
  /-- The command completed. -/
  | success
  /-- `InitError`: fatal. -/
  | initError
  /-- `TransientIOError`: an ordinary outcome, absorbed by the sequencer. -/
  | transient
  /-- `ContractViolation`: caller misuse; a run that reaches one has gone wrong. -/
  | violation
deriving DecidableEq, Repr

/-- The class of a status (R181). -/
def Status.cls : Status → StatusClass
  | .ok => .success
  | .notReady => .initError
  | .configFailed => .initError
  | .writeFailed => .transient
  | .fetchFailed => .transient
  | .readFailed => .transient
  | .adcFailed => .transient
  | .notActive => .violation
  | .contractViolation => .violation
  | .illegalCommand => .violation

/-- The response word `rsp = {status, data}` (R63). -/
def Response.word (r : Response) : RspWord := r.status.code ++ r.data

/-- `ctl` as its two bits (R11). -/
def Ctl.bits : Ctl → BitVec 2
  | .uninit => 0b00
  | .ready => 0b01
  | .fatal => 0b10

/-- `pstate` as its two bits (R12). -/
def PState.bits : PState → BitVec 2
  | .off => 0b00
  | .warming => 0b01
  | .active => 0b10

/-- `phase` as its four bits (R17). -/
def Phase.bits : Phase → BitVec 4
  | .boot => 0
  | .idle => 1
  | .activating => 2
  | .samplingLux => 3
  | .samplingBattery => 4
  | .encoding => 5
  | .publishing => 6
  | .deactivating => 7
  | .sleeping => 8
  | .halted => 9

/-- `cmd_ready` (R60): 1 exactly when no command is in progress and the core is not `FATAL`. -/
def State.cmdReady (s : State) : Bool := !s.busy && decide (s.ctl ≠ .fatal)

/-- `cmd_valid` (R60). -/
def State.cmdValid (s : State) : Bool := s.cmd.isSome

/-- `rsp_valid` (R60). -/
def State.rspValid (s : State) : Bool := s.rsp.isSome

end Sys2Proof.Machine
end

