-- ==== Sys2Proof/Machine/Operands.lean ====
section
/-! DEFINITION. The data field of a response, per command (R63), and the fields a reader takes back out of it; the bytes of a record seen
as one value (R67). The operand fields of a command word are taken out once, in Decode.lean (R61, R62). -/

namespace Sys2Proof.Machine

/-- A value in the low bits of the data field, the rest zero (`zext_72`, R63). -/
def dataOf {n : Nat} (v : BitVec n) : Data := v.setWidth 72

/-- `data[63:0]`, the microlux of `SAMPLE_LUX` (R63). -/
def dataMicrolux (d : Data) : BitVec 64 := d.extractLsb' 0 64

/-- `data[31:0]`, the millivolts of `READ_MV` (R63). -/
def dataMillivolt (d : Data) : BitVec 32 := d.extractLsb' 0 32

/-- `data[23:0]`, the centilux of `ENC_LUX` (R63). -/
def dataCentilux (d : Data) : BitVec 24 := d.extractLsb' 0 24

/-- `data[7:0]`, the byte of `ENC_BATT` or the percentage of `EST_PCT` (R63). -/
def dataByte (d : Data) : Byte := d.extractLsb' 0 8

/-- Byte `i` of a record seen as one value: `R[8i+7:8i]` (R67). -/
def recordByteOf (r : Data) (i : Nat) : Byte := r.extractLsb' (8 * i) 8

/-- The nine bytes of a record seen as one value, offset 0 first (R67). -/
def recordBytesOf (r : Data) : List Byte := (List.range Config.recLen).map (recordByteOf r)

end Sys2Proof.Machine
end

