-- ==== Sys2Proof/Machine/Ops.lean ====
section
/-! DEFINITION. The operations every rule is written with: the environment's draws and time (R20, R196, R222), collaborator calls, the bus
(R44, R45), the record buffer (R41, R50), accepting a command and answering it (R60, R63), the failure of `INIT` (R104) and
reset (R210, R211). -/

namespace Sys2Proof.Machine

/-! ## The environment's choices and time -/

/-- The `n`-th choice of the environment from here: decided already, or free (log 1). -/
def State.drawAt (s : State) (n : Nat) : Draw := (s.script[n]?).getD (Config.freeDraw (s.drawn + n))

/-- One choice is drawn: its time passes, which no rule bounds (R222 (c); `now` never decreases, R20), and another agent may have rewritten
the sensor's register meanwhile (R20, R218; log 18). -/
def State.tick (s : State) : State :=
  { s with
    now := s.now + (s.drawAt 0).elapsed
    physReg := (s.drawAt 0).rewrite.getD s.physReg
    script := s.script.tail
    drawn := s.drawn + 1 }

/-- Collaborator call `c` is made (R196): one choice is drawn, the call enters the history, and a call that is never answered
stays outstanding (R221). -/
def State.call (s : State) (c : Call) : State :=
  { s.tick with
    trace := ⟨c, (s.drawAt 0).reply, s.now + (s.drawAt 0).elapsed⟩ :: s.trace
    pending := if (s.drawAt 0).reply = .never then some c else s.pending }

/-- Call `c`, then go on as its answer says (R196): `failed` after `fail` or `false`, `done` after `ok` or `true`; nothing more happens
where it is never answered (R221: no time-out). -/
def State.ask (s : State) (c : Call) (failed done : State → State) : State :=
  match (s.drawAt 0).reply with
  | .never => s.call c
  | .fail => failed (s.call c)
  | .ok => done (s.call c)

/-! ## The bus (R44, R45) -/

/-- The wire bytes of a register write: `[addr, low, high]` (R44). -/
def busWriteFrame (addr : BitVec 8) (v : BitVec 16) : List Byte := [addr, v.extractLsb' 0 8, v.extractLsb' 8 8]

/-- The wire bytes of a register read's request: `[addr]` (R45). -/
def busReadRequest (addr : BitVec 8) : List Byte := [addr]

/-- The two bytes the sensor sends back for a register holding `v`, low byte first (R42, R45). -/
def busReadReply (v : BitVec 16) : Byte × Byte := (v.extractLsb' 0 8, v.extractLsb' 8 8)

/-- The value of the two bytes read back: `v = {b1, b0}` (R45). -/
def busReadValue (b : Byte × Byte) : BitVec 16 := b.2 ++ b.1

/-- The bytes the block puts on the sensor bus for a call; only the register calls are the block's own bus traffic (R40, N4). -/
def Call.frame : Call → List Byte
  | .busWrite addr v => busWriteFrame addr v
  | .busRead addr => busReadRequest addr
  | .devReady => []
  | .cfgSet _ _ => []
  | .sensorFetch => []
  | .sensorGetLux => []
  | .adcReadRaw _ _ _ _ => []
  | .publish _ => []

/-- The sensor takes a successful write of the power-control register: all 16 bits at once (R20, R46). -/
def State.sensorTakes (s : State) (v : BitVec 16) : State := { s with physReg := v }

/-- `BusWrite(PWR_REG_ADDR, v)`: on `ok` the physical register holds `v`; on `fail` nothing changed (R20, R44). -/
def State.writePower (s : State) (v : BitVec 16) (failed done : State → State) : State :=
  s.ask (.busWrite s.params.pwrRegAddr v) failed fun t => done (t.sensorTakes v)

/-- `BusRead(PWR_REG_ADDR)`: on `ok(v)`, `v` is the physical register, through the two bytes on the wire (R20, R45). -/
def State.readPower (s : State) (failed : State → State) (done : BitVec 16 → State → State) : State :=
  s.ask (.busRead s.params.pwrRegAddr) failed fun t => done (busReadValue (busReadReply t.physReg)) t

/-! ## The record buffer (R16, R41, R50) -/

/-- What the record buffer reads at an offset nothing was written to: the reset contents (R16, R210). -/
def recordReset (p : Params) : Nat → Byte
  | 0 => p.serviceId.extractLsb' 0 8
  | 1 => p.serviceId.extractLsb' 8 8
  | 2 => Config.deviceInfo
  | 3 => Config.luxMarker
  | 7 => Config.battMarker
  | 8 => Config.battUnknown
  | _ => 0x00

/-- The byte at an offset. -/
def Memory.read (p : Params) : Memory → Nat → Byte
  | [], a => recordReset p a
  | (k, c) :: m, a => if k = a then c else Memory.read p m a

/-- A cell in front of the others, left out where it holds what an unlisted offset reads as. -/
def Memory.put (p : Params) (a : Nat) (b : Byte) (m : Memory) : Memory :=
  if b = recordReset p a then m else (a, b) :: m

/-- Write the byte at an offset, keeping the canonical form. -/
def Memory.write (p : Params) : Memory → Nat → Byte → Memory
  | [], a, b => Memory.put p a b []
  | (k, c) :: m, a, b =>
    if a < k then Memory.put p a b ((k, c) :: m)
    else if a = k then Memory.put p a b m
    else (k, c) :: Memory.write p m a b

/-- Write bytes at consecutive offsets. -/
def Memory.writeFrom (p : Params) (m : Memory) (a : Nat) : List Byte → Memory
  | [] => m
  | b :: bs => Memory.writeFrom p (Memory.write p m a b) (a + 1) bs

/-- The canonical form: offsets strictly rising, all below nine, no cell equal to the reset contents (log 14). -/
def Memory.wf (p : Params) (m : Memory) : Bool :=
  decide (m.Pairwise fun x y => x.1 < y.1)
    && m.all fun c => decide (c.1 < Config.recLen) && decide (c.2 ≠ recordReset p c.1)

/-- `rec[i]`, `i` in 0..8 (R16). -/
def State.recordByte (s : State) (i : Fin 9) : Byte := Memory.read s.params s.record i

/-- The nine bytes of the record, offset 0 first, as `Publish` takes them (R50, R162). -/
def State.recordBytes (s : State) : List Byte := (List.finRange 9).map s.recordByte

/-- `{rec[6], rec[5], rec[4]}`, the stored lux value (R160). -/
def State.storedLux (s : State) : BitVec 24 := s.recordByte 6 ++ s.recordByte 5 ++ s.recordByte 4

/-- `rec[0..8] <- bytes of R`, one transition (R50, R160). -/
def State.writeRecord (s : State) (r : Data) : State :=
  { s with record := Memory.writeFrom s.params s.record 0 (recordBytesOf r) }

/-! ## Commands and responses (R60, R63, R185) -/

/-- The core accepts `w` (R60): `busy <- 1`, `cur <- w`; the offered word is taken and no response is driven. -/
def State.accept (s : State) (w : CmdWord) : State :=
  { s with busy := true, cur := w, cmd := none, rsp := none }

/-- `respond(status, data)` (R60, R63): the command ends. This is also the whole of an error's entry (R185): nothing is saved, nothing is
redirected. -/
def State.respond (s : State) (st : Status) (d : Data) : State :=
  { s with busy := false, rsp := some ⟨st, d⟩ }

/-- A command ends with a status that is not `OK`: the data field is zero (R63, R180). -/
def State.reject (s : State) (st : Status) : State := s.respond st 0

/-- `fail_init(status)` (R104): the one unrecoverable error. -/
def State.failInit (st : Status) (s : State) : State :=
  State.reject { s with ctl := .fatal, fatalCode := st.code } st

/-- A word that matches no row (R66): no state changes, no collaborator is called. -/
def State.rejectIllegal (s : State) : State := s.reject .illegalCommand

/-! ## Reset (R210, R211) -/

/-- Reset is asserted (R211): the command in progress is abandoned without a response and every register takes its value of R210. The
environment goes on: its time, its register, its choices and the history stay; whether a write in flight reached the sensor, the choice
drawn for the step has said (`advance`, log 10). A sequencer's offered word goes with the sequencer; a host does not withdraw its own
(log 11). -/
def State.restart (s : State) : State :=
  { State.resetWith s.params with
    now := s.now
    physReg := s.physReg
    script := s.script
    drawn := s.drawn
    trace := s.trace
    driver := s.driver
    cmd := if s.driver = .sequencer then none else s.cmd }

end Sys2Proof.Machine
end

