-- ==== Sys2Proof/Machine/Battery.lean ====
section
/-! DEFINITION. The battery path: `READ_MV` and `EST_PCT` (R130-R139), the curve as a formula (R134) and as a read-only table (R136). -/

namespace Sys2Proof.Machine

/-- The quotient of R131 before it is narrowed: the exact product, divided once, truncating toward zero. -/
def rawToMvExact (p : Params) (raw : BitVec 16) : Int :=
  Int.tdiv (raw.toInt * p.adcRefMv * p.adcDivider) (2 ^ p.adcResBits - 1)

/-- `raw_to_mv` (R131): the quotient in 32 bits, which R6's constraint makes it fit. -/
def rawToMv (p : Params) (raw : BitVec 16) : BitVec 32 := BitVec.ofInt 32 (rawToMvExact p raw)

/-- One sloped segment of the curve (R134): `base + ((mv - start) * num) / den`, multiplied first, then divided, truncating. -/
def curveSegment (mv start base num den : Int) : Int := base + Int.tdiv ((mv - start) * num) den

/-- The curve before its clamp (R134), the tests in the order of the rule. -/
def curve (mv : Int) : Int :=
  if 3000 ≤ mv then 100
  else if 2850 ≤ mv then curveSegment mv 2850 80 20 150
  else if 2700 ≤ mv then curveSegment mv 2700 50 30 150
  else if 2550 ≤ mv then curveSegment mv 2550 20 30 150
  else if 2400 ≤ mv then curveSegment mv 2400 5 15 150
  else if 2300 ≤ mv then curveSegment mv 2300 0 5 100
  else 0

/-- `est_pct` (R134): the curve of the signed millivolts, clamped to 0..100. -/
def estPct (mv : BitVec 32) : Byte := BitVec.ofInt 8 (min (max (curve mv.toInt) 0) 100)

/-- The content of R136's table: the first millivolt value of each percentage 1..100 (95_test_vectors.md section 2.4). -/
def pctStarts : List Int :=
  [2320, 2340, 2360, 2380,
   2400, 2410, 2420, 2430, 2440, 2450, 2460, 2470, 2480, 2490, 2500, 2510, 2520, 2530, 2540] ++
  [2550, 2555, 2560, 2565, 2570, 2575, 2580, 2585, 2590, 2595, 2600, 2605, 2610, 2615, 2620,
   2625, 2630, 2635, 2640, 2645, 2650, 2655, 2660, 2665, 2670, 2675, 2680, 2685, 2690, 2695] ++
  [2700, 2705, 2710, 2715, 2720, 2725, 2730, 2735, 2740, 2745, 2750, 2755, 2760, 2765, 2770,
   2775, 2780, 2785, 2790, 2795, 2800, 2805, 2810, 2815, 2820, 2825, 2830, 2835, 2840, 2845] ++
  [2850, 2858, 2865, 2873, 2880, 2888, 2895, 2903, 2910, 2918,
   2925, 2933, 2940, 2948, 2955, 2963, 2970, 2978, 2985, 2993, 3000]

/-- The curve as a read-only table (R136): the percentage is the number of entries at or below the reading. -/
def estPctRom (mv : BitVec 32) : Byte := BitVec.ofNat 8 (pctStarts.countP fun a => decide (a ≤ mv.toInt))

/-- The `AdcReadRaw` call with the four ADC parameters (R130). -/
def adcCall (p : Params) : Call := .adcReadRaw p.adcChannel p.adcResBits p.adcGain p.adcReference

/-- `READ_MV` (R130): one sample, scaled; no averaging (R138). -/
def execReadMv (s : State) : Host.Outcome State Fault Refusal :=
  .next (s.ask (adcCall s.params) (fun t => t.reject .adcFailed)
    fun t => t.respond .ok (dataOf (rawToMv t.params (s.drawAt 0).raw)))

/-- `EST_PCT mv` (R133). -/
def execEstPct (mv : BitVec 32) (s : State) : Host.Outcome State Fault Refusal :=
  .next (s.respond .ok (dataOf (estPct mv)))

end Sys2Proof.Machine
end

