-- ==== Sys2Proof/Machine/Payload.lean ====
section
/-! DEFINITION. The payload encoder: `ENC_LUX`, `ENC_BATT`, `BUILD_REC` (R80-R88). All three are pure: they look at no register and write
none, whatever `ctl` and `pstate` are (R68, R80). -/

namespace Sys2Proof.Machine

/-- `enc_lux` (R81): floor, add and divide, clamp, on unbounded integers, so the addition cannot wrap (R82 item 5). -/
def encLux (m : BitVec 64) : BitVec 24 :=
  BitVec.ofInt 24 (min (Int.tdiv (max m.toInt 0 + Config.luxRound) Config.luxDiv) Config.luxMax)

/-- `enc_batt` (R84): the identity on 0..100, 0xFF for unknown. It is asked only where R85 does not reject. -/
def encBatt (unknown : Bool) (percent : Byte) : Byte :=
  if unknown then Config.battUnknown else percent

/-- `build_rec` (R87): `{batt, 0x01, lux, 0x05, 0x40, SERVICE_ID}`. -/
def buildRec (p : Params) (lux : BitVec 24) (batt : Byte) : Data :=
  batt ++ Config.battMarker ++ lux ++ Config.luxMarker ++ Config.deviceInfo ++ p.serviceId

/-- `ENC_LUX microlux` (R80). -/
def execEncLux (microlux : BitVec 64) (s : State) : Host.Outcome State Fault Refusal :=
  .next (s.respond .ok (dataOf (encLux microlux)))

/-- `ENC_BATT percent`, `ENC_BATT unknown` (R83, R85). -/
def execEncBatt (unknown : Bool) (percent : BitVec 8) (s : State) : Host.Outcome State Fault Refusal :=
  .next (if !unknown && decide (100 < percent.toNat) then s.reject .contractViolation
    else s.respond .ok (dataOf (encBatt unknown percent)))

/-- `BUILD_REC lux, batt` (R86): `batt` is copied as it stands. -/
def execBuildRec (lux : BitVec 24) (batt : BitVec 8) (s : State) : Host.Outcome State Fault Refusal :=
  .next (s.respond .ok (buildRec s.params lux batt))

end Sys2Proof.Machine
end

