-- ==== Sys2Proof/Machine/Sensor.lean ====
section
/-! DEFINITION. The sensor power controller: `INIT`, `ACTIVATE`, `DEACTIVATE`, `SAMPLE_LUX` (R100-R116) and the settle gate (R109-R111).
The lifecycle and power-state checks stand in the order of R68. -/

namespace Sys2Proof.Machine

/-- The end of a successful `INIT` (R101, R103): `v` is the value read back. -/
def State.initDone (v : BitVec 16) (s : State) : State :=
  State.respond { s with cache := some v, pstate := .off, ctl := .ready } .ok (dataOf v)

/-- The body of `INIT` (R101, R102): readiness, the integration time, the gain, the read-back; the first failure ends it. -/
def State.initBody (s : State) : State :=
  s.ask .devReady (State.failInit .notReady) fun s1 =>
  s1.ask (.cfgSet .integrationTime s1.params.itValue) (State.failInit .configFailed) fun s2 =>
  s2.ask (.cfgSet .gain s2.params.gainValue) (State.failInit .configFailed) fun s3 =>
  s3.readPower (State.failInit .configFailed) State.initDone

/-- `INIT` (R101), accepted only in `UNINIT` (R105 (a)). -/
def execInit (s : State) : Host.Outcome State Fault Refusal :=
  .next (if s.ctl = .uninit then s.initBody else s.reject .contractViolation)

/-- The cached register value where the sensor commands may use it: `ctl = READY` (R106, R113); the cache is then written (R21 item 1,
log 7). -/
def State.readyCache (s : State) : Option (BitVec 16) := if s.ctl = .ready then s.cache else none

/-- `ACTIVATE`'s effects once its write succeeded (R106): the cache holds `v`, the first settle delay starts now. -/
def State.startWarmUp (v : BitVec 16) (s : State) : State :=
  { s with cache := some v, pstate := .warming, wstage := .w1, wDeadline := s.now + s.params.tStartUs }

/-- `ACTIVATE` (R106-R108) up to the start of its settle delays; `State.warm` carries it on. -/
def execActivate (s : State) : Host.Outcome State Fault Refusal :=
  .next (match s.readyCache with
    | none => s.reject .contractViolation
    | some c => s.writePower (c &&& ~~~s.params.sdMask) (fun t => t.reject .writeFailed)
        (State.startWarmUp (c &&& ~~~s.params.sdMask)))

/-- The first settle delay ends, the second starts (R110). -/
def State.startSecondDelay (s : State) : State :=
  { s with wstage := .w2, wDeadline := s.now + s.params.tIntUs + Config.tMarginUs }

/-- The second settle delay ends: `ACTIVATE` completes (R111). -/
def State.endWarmUp (s : State) : State :=
  State.respond { s with wstage := .wNone, pstate := .active } .ok 0

/-- The settle gate (R109-R111): the stage ends if its deadline is reached. `W_NONE` beside `busy` is held by no run (log 20): nothing
happens there. -/
def State.warm (s : State) : State :=
  match s.wstage with
  | .wNone => s
  | .w1 => if s.wDeadline ≤ s.now then s.startSecondDelay else s
  | .w2 => if s.wDeadline ≤ s.now then s.endWarmUp else s

/-- `DEACTIVATE`'s effects once its write succeeded (R113, C4). -/
def State.powerDown (v : BitVec 16) (s : State) : State :=
  State.respond { s with cache := some v, pstate := .off } .ok 0

/-- `DEACTIVATE` (R113, R114). -/
def execDeactivate (s : State) : Host.Outcome State Fault Refusal :=
  .next (match s.readyCache with
    | none => s.reject .contractViolation
    | some c => s.writePower (c ||| s.params.sdMask) (fun t => t.reject .writeFailed)
        (State.powerDown (c ||| s.params.sdMask)))

/-- The body of `SAMPLE_LUX` (R115): fetch, then read the channel. -/
def State.sampleBody (s : State) : State :=
  s.ask .sensorFetch (fun t => t.reject .fetchFailed) fun s1 =>
  s1.ask .sensorGetLux (fun t => t.reject .readFailed) fun s2 =>
  s2.respond .ok (dataOf (s1.drawAt 0).lux)

/-- `SAMPLE_LUX` (R115, R116). -/
def execSampleLux (s : State) : Host.Outcome State Fault Refusal :=
  .next (if s.ctl = .ready then
      if s.pstate = .active then s.sampleBody else s.reject .notActive
    else s.reject .contractViolation)

end Sys2Proof.Machine
end

