-- ==== Sys2Proof/Machine/Dispatch.lean ====
section
/-! DEFINITION. One arm per command. -/

namespace Sys2Proof.Machine

def exec (i : Instr) (s : State) : Host.Outcome State Fault Refusal :=
  match i with
  | .init => Sys2Proof.Machine.execInit s
  | .activate => Sys2Proof.Machine.execActivate s
  | .deactivate => Sys2Proof.Machine.execDeactivate s
  | .sampleLux => Sys2Proof.Machine.execSampleLux s
  | .encLux microlux => Sys2Proof.Machine.execEncLux microlux s
  | .encBatt unknown percent => Sys2Proof.Machine.execEncBatt unknown percent s
  | .buildRec lux batt => Sys2Proof.Machine.execBuildRec lux batt s
  | .readMv => Sys2Proof.Machine.execReadMv s
  | .estPct mv => Sys2Proof.Machine.execEstPct mv s

end Sys2Proof.Machine
end

