-- ==== Sys2Proof/Decode.lean ====
section
/-! DEFINITION. The opcode map (R64), the decoder of a command word (R61, R64, R66), the encoder, and `decodeTableWord`. A command is
one 72-bit word and is decoded by R64 alone, whatever the state (R69); there is no instruction memory, so no byte order of a fetch
(R42, R52). -/

namespace Sys2Proof

/-- Why a word is illegal (R66): its opcode is none of the nine, or a reserved operand bit is not zero. -/
inductive Illegal where
  | opcode
  | reserved
deriving DecidableEq, Repr

/-- One row of the opcode map (R64): a word `w` selects it when `w &&& mask = pattern`. -/
structure Row where
  mnemonic : String
  pattern : CmdWord
  mask : CmdWord
deriving DecidableEq, Repr

/-- The opcode map (R64), transcribed. -/
def opcodeMap : List Row :=
  [ ⟨"INIT",       0x010000000000000000, 0xFFFFFFFFFFFFFFFFFF⟩,
    ⟨"ACTIVATE",   0x020000000000000000, 0xFFFFFFFFFFFFFFFFFF⟩,
    ⟨"DEACTIVATE", 0x030000000000000000, 0xFFFFFFFFFFFFFFFFFF⟩,
    ⟨"SAMPLE_LUX", 0x040000000000000000, 0xFFFFFFFFFFFFFFFFFF⟩,
    ⟨"ENC_LUX",    0x100000000000000000, 0xFF0000000000000000⟩,
    ⟨"ENC_BATT",   0x110000000000000000, 0xFFFFFFFFFFFFFFFE00⟩,
    ⟨"BUILD_REC",  0x120000000000000000, 0xFFFFFFFFFF00000000⟩,
    ⟨"READ_MV",    0x200000000000000000, 0xFFFFFFFFFFFFFFFFFF⟩,
    ⟨"EST_PCT",    0x210000000000000000, 0xFFFFFFFFFF00000000⟩ ]

/-- The word selects the row (R64). -/
def Row.selects (r : Row) (w : CmdWord) : Bool := w &&& r.mask == r.pattern

/-- The opcode field (R61). -/
def opcodeOf (w : CmdWord) : BitVec 8 := w.extractLsb' 64 8

/-- The operand field (R61). -/
def operandOf (w : CmdWord) : Operand := w.extractLsb' 0 64

/-- A command whose reserved operand bits must be zero (R61, R66 (b)). -/
def ifReservedZero {n : Nat} (reserved : BitVec n) (i : Instr) : Except Illegal Instr :=
  if reserved = 0 then .ok i else .error .reserved

/-- Format N: all 64 operand bits are reserved. -/
def formN (i : Instr) (x : Operand) : Except Illegal Instr := ifReservedZero x i

/-- Format L: the operand is `microlux`. -/
def formL (x : Operand) : Except Illegal Instr := .ok (.encLux x)

/-- Format P: `percent` in bits 7..0, `unknown` in bit 8, bits 63..9 reserved. -/
def formP (x : Operand) : Except Illegal Instr :=
  ifReservedZero (x.extractLsb' 9 55) (.encBatt (x.getLsbD 8) (x.extractLsb' 0 8))

/-- Format B: `lux` in bits 23..0, `batt` in bits 31..24, bits 63..32 reserved. -/
def formB (x : Operand) : Except Illegal Instr :=
  ifReservedZero (x.extractLsb' 32 32) (.buildRec (x.extractLsb' 0 24) (x.extractLsb' 24 8))

/-- Format M: `mv` in bits 31..0, bits 63..32 reserved. -/
def formM (x : Operand) : Except Illegal Instr :=
  ifReservedZero (x.extractLsb' 32 32) (.estPct (x.extractLsb' 0 32))

/-- The decoder (R64, R66): total on any word, the reason named where the word is illegal. -/
def decode (w : CmdWord) : Except Illegal Instr :=
  let op := opcodeOf w
  let x := operandOf w
  if op = 0x01#8 then formN .init x
  else if op = 0x02#8 then formN .activate x
  else if op = 0x03#8 then formN .deactivate x
  else if op = 0x04#8 then formN .sampleLux x
  else if op = 0x10#8 then formL x
  else if op = 0x11#8 then formP x
  else if op = 0x12#8 then formB x
  else if op = 0x20#8 then formN .readMv x
  else if op = 0x21#8 then formM x
  else .error .opcode

/-- A command word from its two fields (R61). -/
def cmdWord (op : BitVec 8) (x : Operand) : CmdWord := op ++ x

/-- The encoder, from the same table (R61, R64, R70). -/
def encode : Instr → CmdWord
  | .init => cmdWord 0x01#8 0#64
  | .activate => cmdWord 0x02#8 0#64
  | .deactivate => cmdWord 0x03#8 0#64
  | .sampleLux => cmdWord 0x04#8 0#64
  | .encLux m => cmdWord 0x10#8 m
  | .encBatt u p => cmdWord 0x11#8 (0#55 ++ BitVec.ofBool u ++ p)
  | .buildRec l b => cmdWord 0x12#8 (0#32 ++ b ++ l)
  | .readMv => cmdWord 0x20#8 0#64
  | .estPct v => cmdWord 0x21#8 (0#32 ++ v)

/-- The command the decoder reads from the word numbered `w` as the opcode table numbers it; every row has 72 bits. -/
def decodeTableWord (_nbits w : Nat) : Option Instr :=
  match decode (BitVec.ofNat 72 w) with
  | .ok i => some i
  | .error _ => none

end Sys2Proof
end

