-- ==== Sys2Proof/Machine/Sequencer.lean ====
section
/-! DEFINITION. The sequencer (R2, R150-R168): one definition per phase. In a phase that issues a command, no response waiting means the
command is yet to be issued, and a waiting response is consumed. A status that the phase's rule does not list is a fault of the
model's own (log 8). -/

namespace Sys2Proof.Machine

/-- The sequencer offers a command on the port (R60, R150). -/
def State.issue (s : State) (i : Instr) : State := { s with cmd := some (encode i), rsp := none }

/-- `phase <- ph`, the response consumed. -/
def State.enter (s : State) (ph : Phase) : State := { s with phase := ph, rsp := none }

/-- The next line of `ENCODING`, the response consumed. -/
def State.enterEnc (s : State) (e : EncStep) : State := { s with enc := e, rsp := none }

/-- `BOOT` (R151): `INIT`, once. -/
def seqBoot (s : State) : Host.Outcome State Fault Refusal :=
  match s.rsp with
  | none => .next (s.issue .init)
  | some r =>
    match r.status with
    | .ok => .next (s.enter .idle)
    | .notReady => .next (s.enter .halted)
    | .configFailed => .next (s.enter .halted)
    | _ => .fault .unexpectedResponse

/-- `IDLE` (R152): the start of a cycle. -/
def seqIdle (s : State) : Host.Outcome State Fault Refusal :=
  .next (State.enter { s with sLux := none, sMv := none } .activating)

/-- `ACTIVATING` (R153): a failed activation skips the lux sample. -/
def seqActivating (s : State) : Host.Outcome State Fault Refusal :=
  match s.rsp with
  | none => .next (s.issue .activate)
  | some r =>
    match r.status with
    | .ok => .next (s.enter .samplingLux)
    | .writeFailed => .next (s.enter .samplingBattery)
    | _ => .fault .unexpectedResponse

/-- `SAMPLING_LUX` (R154): in every case the battery comes next. -/
def seqSamplingLux (s : State) : Host.Outcome State Fault Refusal :=
  match s.rsp with
  | none => .next (s.issue .sampleLux)
  | some r =>
    .next (State.enter { s with sLux := if r.status = .ok then some (dataMicrolux r.data) else s.sLux } .samplingBattery)

/-- `SAMPLING_BATTERY` (R155): in every case `ENCODING` comes next, at its first line. -/
def seqSamplingBattery (s : State) : Host.Outcome State Fault Refusal :=
  match s.rsp with
  | none => .next (s.issue .readMv)
  | some r =>
    .next (State.enter { s with
      sMv := if r.status = .ok then some (dataMillivolt r.data) else s.sMv
      enc := .lux } .encoding)

/-- One command of `ENCODING`: issue it, then go on with its data; no step of the phase can fail (R160). -/
def seqExchange (s : State) (i : Instr) (done : Data → State) : Host.Outcome State Fault Refusal :=
  match s.rsp with
  | none => .next (s.issue i)
  | some r => if r.status = .ok then .next (done r.data) else .fault .unexpectedResponse

/-- The record is stored, all nine bytes at once, and `PUBLISHING` comes next (R160, R50). -/
def State.storeRecord (s : State) (r : Data) : State := State.enter { s.writeRecord r with enc := .lux } .publishing

/-- `ENCODING` (R160): lux bytes, battery byte, record. -/
def seqEncoding (s : State) : Host.Outcome State Fault Refusal :=
  match s.enc with
  | .lux =>
    match s.sLux with
    | some m => seqExchange s (.encLux m) fun d => s.enterEnc (.percent (dataCentilux d))
    | none => .next (s.enterEnc (.percent s.storedLux))
  | .percent l =>
    match s.sMv with
    | some v => seqExchange s (.estPct v) fun d => s.enterEnc (.battery l (some (dataByte d)))
    | none => .next (s.enterEnc (.battery l none))
  | .battery l (some p) => seqExchange s (.encBatt false p) fun d => s.enterEnc (.build l (dataByte d))
  | .battery l none => seqExchange s (.encBatt true 0) fun d => s.enterEnc (.build l (dataByte d))
  | .build l b => seqExchange s (.buildRec l b) s.storeRecord

/-- `PUBLISHING` (R162): the nine bytes are handed over; a failure changes nothing else. -/
def seqPublishing (s : State) : Host.Outcome State Fault Refusal :=
  .next (s.ask (.publish s.recordBytes) (fun t => t.enter .deactivating) fun t => t.enter .deactivating)

/-- The sequencer goes to sleep (R163): `t_wake <- Now() + PERIOD_US`, the clock read when it does. -/
def State.goToSleep (s : State) : State := State.enter { s with tWake := s.now + Config.periodUs } .sleeping

/-- `DEACTIVATING` (R163): a failed shutdown is not fatal. -/
def seqDeactivating (s : State) : Host.Outcome State Fault Refusal :=
  match s.rsp with
  | none => .next (s.issue .deactivate)
  | some r =>
    match r.status with
    | .ok => .next s.goToSleep
    | .writeFailed => .next s.goToSleep
    | _ => .fault .unexpectedResponse

/-- `SLEEPING` (R164): at or after `t_wake` a new cycle starts. -/
def seqSleeping (s : State) : Host.Outcome State Fault Refusal :=
  .next (if s.tWake ≤ s.now then s.enter .idle else s)

/-- `HALTED` (R165): no step leaves it except reset. -/
def seqHalted (s : State) : Host.Outcome State Fault Refusal := .fault (.initFailed s.fatalCode)

/-- One step of the sequencer. -/
def seqStep (s : State) : Host.Outcome State Fault Refusal :=
  match s.phase with
  | .boot => seqBoot s
  | .idle => seqIdle s
  | .activating => seqActivating s
  | .samplingLux => seqSamplingLux s
  | .samplingBattery => seqSamplingBattery s
  | .encoding => seqEncoding s
  | .publishing => seqPublishing s
  | .deactivating => seqDeactivating s
  | .sleeping => seqSleeping s
  | .halted => seqHalted s

end Sys2Proof.Machine
end

