-- ==== Sys2Proof/Machine/Advance.lean ====
section
/-! DEFINITION. Which agent moves, and the move (R7.1, R49, R60), after the time the step takes (R222): everything a step does, so that
Step.lean only calls it. -/

namespace Sys2Proof.Machine

/-- An accepted word is decoded and executed, or answered as illegal (R66, R68). -/
def runWord (s : State) (w : CmdWord) : Host.Outcome State Fault Refusal :=
  match decode w with
  | .ok i => exec i (s.accept w)
  | .error _ => .next (s.accept w).rejectIllegal

/-- A command is in progress (R19): a call that is never answered hangs it (R221); otherwise the settle gate runs (R111). -/
def State.inProgress (s : State) : State := if s.pending.isSome then s else s.warm

/-- The host as driver (R213): in `FATAL` nothing more can happen (R104); otherwise it offers its next word, or has none left (log 17). -/
def hostStep (s : State) (words : List CmdWord) : Host.Outcome State Fault Refusal :=
  if s.ctl = .fatal then .fault (.initFailed s.fatalCode)
  else
    match words with
    | [] => .next s
    | w :: ws => .next { s with cmd := some w, driver := .host ws }

/-- The driver's move, where no command is offered or in progress; a `Publish` that is never answered hangs the sequencer (R221). -/
def driverStep (s : State) : Host.Outcome State Fault Refusal :=
  match s.driver with
  | .host words => hostStep s words
  | .sequencer => if s.pending.isSome then .next s else seqStep s

/-- The transition of one step: reset, else the command in progress, else the command offered, else the driver. -/
def transition (s : State) : Host.Outcome State Fault Refusal :=
  if s.resetIn then .next s.restart
  else if s.busy then .next s.inProgress
  else
    match s.cmd with
    | some w => if s.ctl = .fatal then .fault (.initFailed s.fatalCode) else runWord s w
    | none => driverStep s

/-- One step of the machine: the time it takes passes, unspecified for every command and phase (R222 (c), log 9), then the transition. -/
def advance (s : State) : Host.Outcome State Fault Refusal := transition s.tick

/-- The state in which the very next step accepts the word numbered `w` (log 13): the host drives and offers it, nothing is in progress or
outstanding, reset is released. -/
def State.offering (s : State) (w : CmdWord) : State :=
  { s with cmd := some w, driver := .host [], busy := false, pending := none, resetIn := false }

end Sys2Proof.Machine
end

