-- ==== Sys2Proof/Machine/Step.lean ====
section
/-! DEFINITION. The step and the placing of one command where the next step takes it. -/

namespace Sys2Proof.Machine

/-- One step of the machine. -/
def step (s : State) : Host.Outcome State Fault Refusal := advance s

/-- `s` with the 72-bit command numbered `w` offered on the command port, so that the next step accepts and runs it. -/
def State.withFetchWord (s : State) (_nbits w : Nat) : State := s.offering (BitVec.ofNat 72 w)

end Sys2Proof.Machine
end

