-- ==== Sys2Proof/WellFormed.lean ====
section
/-! DEFINITION. The one check the spec puts on a command's operands beyond their widths: the caller's contract of `ENC_BATT` (R85).
The widths themselves are in the types of `Instr`'s fields, so a command outside its format cannot be written down. A command that
fails this check still has an encoding, decodes and executes: it is answered with `ContractViolation`. -/

namespace Sys2Proof

/-- The command keeps the caller's contract: `ENC_BATT` with `unknown = 0` has `percent` in 0..100 (R85); nothing is asked of the
others ("every 64-bit operand is legal", "never fails", "every 32-bit operand is legal": R80, R86, R133). -/
def Instr.wellFormed : Instr → Bool
  | .init => true
  | .activate => true
  | .deactivate => true
  | .sampleLux => true
  | .encLux _ => true
  | .encBatt unknown percent => unknown || decide (percent.toNat ≤ 100)
  | .buildRec _ _ => true
  | .readMv => true
  | .estPct _ => true

end Sys2Proof
end

