-- ==== Sys2Proof/Safety.lean ====
section
/-! DEFINITION. What counts as a run gone wrong (R181, R214), and the invariant of the machine: R21's items, the record's header, and what
the sequencer and the port owe each other (R150-R165). -/

namespace Sys2Proof.Machine

/-! ## Runs that have gone wrong -/

/-- The response on the port reports caller misuse (R181, third class; log 5). -/
def State.misused (s : State) : Bool := s.rsp.any fun r => r.status.cls == .violation

/-- The run has gone wrong: `INIT` failed, or a command was misused (R181, R214). -/
def State.goneWrong (s : State) : Bool := decide (s.ctl = .fatal) || s.misused

/-! ## The settle gate (R21 item 7, R111) -/

/-- What the event wrote to the power-control register, if it is a write of it that succeeded (R44, R46). -/
def Event.powerWrite (p : Params) (e : Event) : Option (BitVec 16) :=
  match e.call with
  | .busWrite a v => if a = p.pwrRegAddr ∧ e.reply = .ok then some v else none
  | .devReady => none
  | .cfgSet _ _ => none
  | .busRead _ => none
  | .sensorFetch => none
  | .sensorGetLux => none
  | .adcReadRaw _ _ _ _ => none
  | .publish _ => none

/-- The newest successful write of the power-control register, and when it was acknowledged; newest event first. -/
def lastPowerWrite (p : Params) : List Event → Option (BitVec 16 × Nat)
  | [] => none
  | e :: es =>
    match e.powerWrite p with
    | some v => some (v, e.time)
    | none => lastPowerWrite p es

/-- The time from a successful start to a trustworthy reading (R111). -/
def settleUs (p : Params) : Nat := p.tStartUs + p.tIntUs + Config.tMarginUs

/-- The newest successful power-control write cleared the shutdown bit (R46, R116), at least `n` us before the time `t`. -/
def State.startedBefore (s : State) (n t : Nat) : Prop :=
  ∃ v t₀, lastPowerWrite s.params s.trace = some (v, t₀) ∧ v &&& s.params.sdMask = 0 ∧ t₀ + n ≤ t

/-! ## The calls of a command (R196, R221) -/

/-- The collaborator calls that command `i` makes in `s` where each before is answered well, in their order (R101, R106, R113, R115,
R130). -/
def State.callsOf (s : State) : Instr → List Call
  | .init =>
    if s.ctl = .uninit then
      [.devReady, .cfgSet .integrationTime s.params.itValue, .cfgSet .gain s.params.gainValue, .busRead s.params.pwrRegAddr]
    else []
  | .activate => s.readyCache.toList.map fun c => .busWrite s.params.pwrRegAddr (c &&& ~~~s.params.sdMask)
  | .deactivate => s.readyCache.toList.map fun c => .busWrite s.params.pwrRegAddr (c ||| s.params.sdMask)
  | .sampleLux => if s.ctl = .ready ∧ s.pstate = .active then [.sensorFetch, .sensorGetLux] else []
  | .readMv => [.adcReadRaw s.params.adcChannel s.params.adcResBits s.params.adcGain s.params.adcReference]
  | .encLux _ => []
  | .estPct _ => []
  | .encBatt _ _ => []
  | .buildRec _ _ => []

/-! ## The invariant -/

/-- The core's part (R21 items 1 to 4 and 7, R14, R19). -/
structure CoreInv (s : State) : Prop where
  /-- R21 item 1. -/
  ready_iff_cache : s.ctl = .ready ↔ s.cache.isSome = true
  /-- R21 item 2. -/
  powered_ready : s.pstate ≠ .off → s.ctl = .ready
  /-- R21 item 3, first half. -/
  warming_iff_stage : s.pstate = .warming ↔ s.wstage ≠ .wNone
  /-- R21 item 3, second half; no call is outstanding then. -/
  warming_busy : s.pstate = .warming → s.busy = true ∧ s.cur = encode .activate ∧ s.pending = none
  /-- R21 item 4. -/
  powered_bit_clear : s.pstate ≠ .off → ∀ c, s.cache = some c → c &&& s.params.sdMask = 0
  /-- R14. -/
  fatal_code_zero : s.ctl ≠ .fatal → s.fatalCode = 0
  /-- R14. -/
  fatal_code_set : s.ctl = .fatal → s.fatalCode = Status.code .notReady ∨ s.fatalCode = Status.code .configFailed
  /-- R109: the first delay ends at least `T_START_US` after the write. -/
  first_delay : s.wstage = .w1 → s.startedBefore s.params.tStartUs s.wDeadline
  /-- R110: the second ends at least the whole settle time after the write. -/
  second_delay : s.wstage = .w2 → s.startedBefore (settleUs s.params) s.wDeadline
  /-- R21 item 7. -/
  settled : s.pstate = .active → s.startedBefore (settleUs s.params) s.now
  /-- R19, R221: a command in progress between steps is warming up or hung. -/
  busy_why : s.busy = true → s.wstage ≠ .wNone ∨ s.pending.isSome = true
  /-- A call outstanding belongs to a command in progress, or to the sequencer (its `Publish`). -/
  pending_why : s.pending.isSome = true → s.busy = true ∨ s.driver = .sequencer

/-- A battery byte the codec produces: 0..100 or 0xFF (R84). -/
def isBatteryByte (b : Byte) : Bool := decide (b.toNat ≤ 100) || decide (b = Config.battUnknown)

/-- The record's part: its canonical form and R21 item 8. -/
structure RecordInv (s : State) : Prop where
  canonical : Memory.wf s.params s.record = true
  id_low : s.recordByte 0 = s.params.serviceId.extractLsb' 0 8
  id_high : s.recordByte 1 = s.params.serviceId.extractLsb' 8 8
  device_info : s.recordByte 2 = 0x40
  lux_marker : s.recordByte 3 = 0x05
  batt_marker : s.recordByte 7 = 0x01
  battery : isBatteryByte (s.recordByte 8) = true

/-- The command the sequencer's phase has to do with the port, if any (R151-R163). -/
def State.request (s : State) : Option Instr :=
  match s.phase with
  | .boot => some .init
  | .idle => none
  | .activating => some .activate
  | .samplingLux => some .sampleLux
  | .samplingBattery => some .readMv
  | .encoding =>
    match s.enc with
    | .lux => s.sLux.map .encLux
    | .percent _ => s.sMv.map .estPct
    | .battery _ (some p) => some (.encBatt false p)
    | .battery _ none => some (.encBatt true 0)
    | .build l b => some (.buildRec l b)
  | .publishing => none
  | .deactivating => some .deactivate
  | .sleeping => none
  | .halted => none

/-- What a response in `ENCODING` carries (R160). -/
def encResponse (s : State) (r : Response) : Prop :=
  match s.enc with
  | .lux => True
  | .percent _ => (dataByte r.data).toNat ≤ 100
  | .battery _ _ => isBatteryByte (dataByte r.data) = true
  | .build l b => r.data = buildRec s.params l b

/-- The responses the sequencer's phase can find on the port (R151-R163). -/
def expectedResponse (s : State) (r : Response) : Prop :=
  match s.phase with
  | .boot => (r.status = .ok ∧ s.ctl = .ready) ∨ ((r.status = .notReady ∨ r.status = .configFailed) ∧ s.ctl = .fatal)
  | .idle => False
  | .activating => (r.status = .ok ∧ s.pstate = .active) ∨ r.status = .writeFailed
  | .samplingLux => r.status = .ok ∨ r.status = .fetchFailed ∨ r.status = .readFailed
  | .samplingBattery => r.status = .ok ∨ r.status = .adcFailed
  | .encoding => r.status = .ok ∧ encResponse s r
  | .publishing => False
  | .deactivating => r.status = .ok ∨ r.status = .writeFailed
  | .sleeping => False
  | .halted => False

/-- What the locals of `ENCODING` hold (R84, R135): a percentage, a battery byte. -/
def EncStep.fits : EncStep → Bool
  | .lux => true
  | .percent _ => true
  | .battery _ (some p) => decide (p.toNat ≤ 100)
  | .battery _ none => true
  | .build _ b => isBatteryByte b

/-- The sequencer's part: its phase against the core's registers and against the port (R150-R165). -/
structure SeqInv (s : State) : Prop where
  boot : s.phase = .boot → s.rsp = none → s.ctl = .uninit
  running : s.phase ≠ .boot → s.phase ≠ .halted → s.ctl = .ready
  halted : s.phase = .halted → s.ctl = .fatal
  offered : ∀ w, s.cmd = some w →
    s.busy = false ∧ s.rsp = none ∧ s.pending = none ∧ ∃ i, s.request = some i ∧ w = encode i
  answered : ∀ r, s.rsp = some r → s.busy = false ∧ s.pending = none ∧ expectedResponse s r
  warming : s.pstate = .warming → s.phase = .activating
  sampling : s.phase = .samplingLux → s.pstate = .active
  locals : s.phase = .encoding → s.enc.fits = true

/-- It is the sequencer's move: no reset, nothing in progress, offered or outstanding, and it drives the port. -/
def State.sequencerTurn (s : State) : Prop :=
  s.resetIn = false ∧ s.busy = false ∧ s.cmd = none ∧ s.pending = none ∧ s.driver = .sequencer

/-- The core is about to accept `w` (R60): no reset, `cmd_valid` with `w`, and `cmd_ready`. -/
def State.aboutToAccept (s : State) (w : CmdWord) : Prop :=
  s.resetIn = false ∧ s.cmd = some w ∧ s.cmdReady = true

/-- The invariant of the machine. -/
structure Inv (s : State) : Prop where
  core : CoreInv s
  record : RecordInv s
  sequencer : s.driver = .sequencer → SeqInv s

end Sys2Proof.Machine
end

