-- ==== Sys2Proof/Certificates/Slice0/Obligations.lean ====
section
/-! DEFINITION. The statements for the provers. Each docstring names the rule it formalises. -/

open Sys2Proof Sys2Proof.Machine

/-! ## Encoding (R61, R64, R65, R66) -/

/-- R61, R64: no operand bit is dropped: every command is read back from its own word. -/
def Obligations.DecodeReadsBackEveryCommand : Prop :=
  ∀ i : Instr, decode (encode i) = .ok i

/-- R64, R66 (D4: every accepted word's meaning is unique): a word that decodes is the word of the command it decodes to. -/
def Obligations.AcceptedWordIsItsCommandsWord : Prop :=
  ∀ (w : CmdWord) (i : Instr), decode w = .ok i → encode i = w

/-- R64: a word is a command exactly where it selects a row of the opcode map, and the rows are disjoint. -/
def Obligations.DecoderFollowsOpcodeMap : Prop :=
  (∀ w : CmdWord, (∃ i, decode w = .ok i) ↔ ∃ r ∈ opcodeMap, w &&& r.mask = r.pattern) ∧
  ∀ (w : CmdWord) (r₁ r₂ : Row), r₁ ∈ opcodeMap → r₂ ∈ opcodeMap →
    w &&& r₁.mask = r₁.pattern → w &&& r₂.mask = r₂.pattern → r₁ = r₂

/-! ## The bus (R42, R44, R45) -/

/-- R42, R44, R45: on the wire a register write is its address, then the low byte, then the high byte; a read sends the address, and the
sensor's two bytes, low byte first, are read back as the register's value. For the other calls the block itself puts nothing on this bus
(what the driver-level calls put there is in no source: R40, N4; log 26, the model's). -/
def Obligations.BusFramesAreLittleEndian : Prop :=
  (∀ (addr : BitVec 8) (v : BitVec 16),
    ((Call.busWrite addr v).frame).map BitVec.toNat = [addr.toNat, v.toNat % 256, v.toNat / 256] ∧
    (Call.busRead addr).frame = [addr] ∧
    (busReadReply v).1.toNat = v.toNat % 256 ∧ (busReadReply v).2.toNat = v.toNat / 256) ∧
  (∀ b₀ b₁ : BitVec 8, (busReadValue (b₀, b₁)).toNat = b₀.toNat + 256 * b₁.toNat) ∧
  (∀ (s : State) (f : State → State) (d : BitVec 16 → State → State), (s.drawAt 0).reply = .ok →
    s.readPower f d = d (busReadValue (busReadReply (s.call (.busRead s.params.pwrRegAddr)).physReg))
      (s.call (.busRead s.params.pwrRegAddr))) ∧
  ∀ c : Call, (∀ addr v, c ≠ .busWrite addr v) → (∀ addr, c ≠ .busRead addr) → c.frame = []

/-- R66 (a), (b): which words are illegal, and why. -/
def Obligations.IllegalWordsByCause : Prop :=
  ∀ (op : BitVec 8) (x : BitVec 64),
    (decode (op ++ x) = .error .opcode ↔ op ∉ [0x01, 0x02, 0x03, 0x04, 0x10, 0x11, 0x12, 0x20, 0x21]) ∧
    (decode (op ++ x) = .error .reserved ↔
      (op ∈ [0x01, 0x02, 0x03, 0x04, 0x20] ∧ x ≠ 0) ∨
      (op = 0x11 ∧ x.extractLsb' 9 55 ≠ 0) ∨
      (op ∈ [0x12, 0x21] ∧ x.extractLsb' 32 32 ≠ 0))

/-- R64, R70, the words of 95_test_vectors.md sections 2.1 to 2.7, one or more per family. -/
def Obligations.SpecWordsDecodeAsWritten : Prop :=
  decode 0x010000000000000000 = .ok .init ∧
  decode 0x020000000000000000 = .ok .activate ∧
  decode 0x10000000000012D687 = .ok (.encLux 1234567) ∧
  decode 0x10FFFFFFFFFFFFFFFF = .ok (.encLux (-1)) ∧
  decode 0x1100000000000001FF = .ok (.encBatt true 0xFF) ∧
  decode 0x12000000003700007B = .ok (.buildRec 0x7B 0x37) ∧
  decode 0x200000000000000000 = .ok .readMv ∧
  decode 0x210000000000000C1C = .ok (.estPct 3100) ∧
  decode 0x000000000000000000 = .error .opcode ∧
  decode 0x048000000000000000 = .error .reserved

/-- R63, R65: the response word is the status number, by R65's table, above the data; no two responses share a word. -/
def Obligations.ResponseWordCarriesStatusAndData : Prop :=
  ∀ r r' : Response,
    (r.status, r.word.extractLsb' 72 8) ∈ ([(.ok, 0x00), (.notReady, 0x01), (.configFailed, 0x02), (.writeFailed, 0x03),
      (.fetchFailed, 0x04), (.readFailed, 0x05), (.notActive, 0x06), (.adcFailed, 0x07), (.contractViolation, 0x0E),
      (.illegalCommand, 0x0F)] : List (Status × BitVec 8)) ∧
    r.word.extractLsb' 72 8 = r.status.code ∧ r.word.extractLsb' 0 72 = r.data ∧
    (r.word = r'.word → r = r')

/-! ## The command port (R60, R66, R68) -/

/-- R60, R69: the accepted word is decoded and executed, after the step's time (R222 (c); `State.tick`, log 9) and with the acceptance
(`busy <- 1`, `cur <- cmd`) around it. -/
def Obligations.StepRunsTheAcceptedCommand : Prop :=
  ∀ (s : State) (w : CmdWord) (i : Instr), s.aboutToAccept w → decode w = .ok i →
    step s = exec i { s.tick with busy := true, cur := w, cmd := none, rsp := none }

/-- R66: a word that matches no row is answered `IllegalCommand` with data 0; no state of the core or the sequencer changes and no
collaborator is called (the word is taken from the port, and `cur` holds it, R60; the step's time passes, log 9). -/
def Obligations.IllegalWordAnsweredWithoutEffect : Prop :=
  ∀ (s : State) (w : CmdWord), s.aboutToAccept w → (∀ r ∈ opcodeMap, w &&& r.mask ≠ r.pattern) →
    step s = .next { s.tick with busy := false, cur := w, cmd := none, rsp := some ⟨.illegalCommand, 0⟩ }

/-- R60, R19: while a command is in progress the core accepts nothing: an offered word is held, and the command in progress stays
until it is answered. That such a step makes no call and leaves the cache and `ctl` as they are rests on log 9, the model's division of a
command into steps: every call is made, and its effect takes place, in the accepting step. -/
def Obligations.PortHoldsWhileBusy : Prop :=
  ∀ s : State, s.resetIn = false → s.busy = true →
    ∃ t, step s = .next t ∧ t.cmd = s.cmd ∧ t.cur = s.cur ∧ t.cache = s.cache ∧ t.ctl = s.ctl ∧
      t.trace = s.trace ∧ (t.busy = true → t.rsp = s.rsp)

/-- R213, R60 (log 17: one word at a time, in the order given): where nothing is offered or in progress and the machine is not stopped, a
host with words left offers the next one as it stands, and one with none left only waits; either way it writes no register: beside
the step's time (log 9), its own list and the offered word, nothing changes. -/
def Obligations.HostOffersItsWords : Prop :=
  ∀ s : State, s.resetIn = false → s.busy = false → s.cmd = none → s.ctl ≠ .fatal →
    (∀ w ws, s.driver = .host (w :: ws) → step s = .next { s.tick with cmd := some w, driver := .host ws }) ∧
    (s.driver = .host [] → step s = .next s.tick)

/-- R104, R60, R165: after a failed `INIT` the machine is stuck until reset: no offered word is accepted, a host with nothing offered can do
nothing, and no step leaves `HALTED`. -/
def Obligations.FailedInitStopsMachine : Prop :=
  ∀ s : State, s.resetIn = false → s.busy = false →
    (∀ w, s.ctl = .fatal → s.cmd = some w → step s = .fault (.initFailed s.fatalCode)) ∧
    (∀ ws, s.ctl = .fatal → s.cmd = none → s.driver = .host ws → step s = .fault (.initFailed s.fatalCode)) ∧
    (s.sequencerTurn → s.phase = .halted → step s = .fault (.initFailed s.fatalCode))

/-- R221, R185, U16: a call that is never answered hangs the block, with no time-out. Whichever of its calls it is (`callsOf`, in their
order), a command that makes it stays in progress with that call outstanding, no later call is made and every register of the core is as
before; so it is with the sequencer's `Publish`, where no command is in progress (`busy = 0`) and the phase stays. From then on a step
that is no reset lets time pass (and other agents act on the sensor, or the write in flight reach it: log 10, the model's) and changes
nothing else. How a command and its calls fall into steps is log 9, the model's. -/
def Obligations.UnansweredCallHangs : Prop :=
  (∀ (i : Instr) (s : State) (k : Nat) (c : Call), (s.callsOf i)[k]? = some c → (∀ n < k, (s.drawAt n).reply = .ok) →
    (s.drawAt k).reply = .never →
    ∃ t, exec i s = .next t ∧ t.pending = some c ∧ t.busy = s.busy ∧ t.cur = s.cur ∧ t.rsp = s.rsp ∧ t.ctl = s.ctl ∧
      t.pstate = s.pstate ∧ t.cache = s.cache ∧ t.fatalCode = s.fatalCode ∧ t.wstage = s.wstage ∧
      t.wDeadline = s.wDeadline ∧ t.drawn = s.drawn + k + 1 ∧
      t.trace.map Event.call = ((s.callsOf i).take (k + 1)).reverse ++ s.trace.map Event.call) ∧
  (∀ s : State, s.sequencerTurn → s.phase = .publishing → (s.drawAt 1).reply = .never →
    ∃ t, step s = .next t ∧ t.pending = some (.publish s.recordBytes) ∧ t.busy = false ∧ t.cmd = none ∧
      t.phase = .publishing ∧ t.rsp = s.rsp ∧ t.record = s.record ∧ t.ctl = s.ctl ∧ t.pstate = s.pstate ∧
      t.cache = s.cache ∧ t.fatalCode = s.fatalCode ∧ t.wstage = s.wstage ∧ t.wDeadline = s.wDeadline ∧
      t.sLux = s.sLux ∧ t.sMv = s.sMv ∧ t.tWake = s.tWake ∧
      t.trace.map Event.call = .publish s.recordBytes :: s.trace.map Event.call) ∧
  (∀ s : State, s.resetIn = false → s.pending.isSome = true →
    s.busy = true ∨ (s.busy = false ∧ s.cmd = none ∧ s.driver = .sequencer) →
    step s = .next { s with
      now := s.now + (s.drawAt 0).elapsed
      physReg := (s.drawAt 0).rewrite.getD s.physReg
      script := s.script.tail
      drawn := s.drawn + 1 })

/-! ## The payload encoder (R80-R88) -/

/-- R80, R81: `ENC_LUX` answers `OK` with the centilux value, floor, add, truncating division, clamp, and writes nothing else. -/
def Obligations.EncLuxAnswersCentilux : Prop :=
  ∀ (m : BitVec 64) (s : State), ∃ c : BitVec 24,
    (c.toNat : Int) = min ((max m.toInt 0 + 5000) / 10000) 0xFFFFFF ∧
    exec (.encLux m) s = .next { s with busy := false, rsp := some ⟨.ok, 0#48 ++ c⟩ }

/-- R82: the interval of each centilux value, negatives, the clamp up to the top of int64, and monotony. -/
def Obligations.EncLuxIntervals : Prop :=
  ∀ m : BitVec 64,
    (m.toInt < 5000 → encLux m = 0) ∧
    (∀ k : Nat, 1 ≤ k → k ≤ 16777214 →
      (encLux m = BitVec.ofNat 24 k ↔ 10000 * (k : Int) - 5000 ≤ m.toInt ∧ m.toInt ≤ 10000 * (k : Int) + 4999)) ∧
    (encLux m = 0xFFFFFF ↔ 167772145000 ≤ m.toInt) ∧
    (∀ m' : BitVec 64, m.toInt ≤ m'.toInt → (encLux m).toNat ≤ (encLux m').toNat)

/-- R83, R84, R85: `ENC_BATT` answers the percentage itself for 0..100 and 0xFF for unknown; 101..255 is a contract violation
with data 0. Nothing else is written. -/
def Obligations.EncBattAnswersByteOrRefuses : Prop :=
  ∀ (p : BitVec 8) (s : State),
    exec (.encBatt true p) s = .next { s with busy := false, rsp := some ⟨.ok, 0xFF#72⟩ } ∧
    (p.toNat ≤ 100 → exec (.encBatt false p) s = .next { s with busy := false, rsp := some ⟨.ok, 0#64 ++ p⟩ }) ∧
    (101 ≤ p.toNat →
      exec (.encBatt false p) s = .next { s with busy := false, rsp := some ⟨.contractViolation, 0⟩ })

/-- R86, R87, R67, R41: `BUILD_REC` answers the record, byte by byte from offset 0, and writes nothing else (it is the sequencer that
stores it). -/
def Obligations.BuildRecAnswersRecord : Prop :=
  ∀ (lux : BitVec 24) (batt : BitVec 8) (s : State), ∃ r : BitVec 72,
    exec (.buildRec lux batt) s = .next { s with busy := false, rsp := some ⟨.ok, r⟩ } ∧
    (List.range 9).map (fun i => r.extractLsb' (8 * i) 8)
      = [s.params.serviceId.extractLsb' 0 8, s.params.serviceId.extractLsb' 8 8, 0x40, 0x05,
         lux.extractLsb' 0 8, lux.extractLsb' 8 8, lux.extractLsb' 16 8, 0x01, batt]

/-- R22, R80, R133: the four pure commands read no register: their response is the same from any two states of one machine, and it is
all they change. -/
def Obligations.PureCommandsReadNoRegister : Prop :=
  ∀ (s s' : State), s.params = s'.params → ∀ i : Instr,
    (∃ m, i = .encLux m) ∨ (∃ u p, i = .encBatt u p) ∨ (∃ l b, i = .buildRec l b) ∨ (∃ v, i = .estPct v) →
    ∃ r : Response, exec i s = .next { s with busy := false, rsp := some r } ∧
      exec i s' = .next { s' with busy := false, rsp := some r }

/-! ## The battery path (R130-R139) -/

/-- R133, R134: `EST_PCT` answers the curve, tests in the rule's order, and writes nothing else. -/
def Obligations.EstPctAnswersCurve : Prop :=
  ∀ (v : BitVec 32) (s : State), ∃ b : BitVec 8,
    exec (.estPct v) s = .next { s with busy := false, rsp := some ⟨.ok, 0#64 ++ b⟩ } ∧
    (b.toNat : Int) =
      if v.toInt ≥ 3000 then 100
      else if v.toInt ≥ 2850 then 80 + ((v.toInt - 2850) * 20) / 150
      else if v.toInt ≥ 2700 then 50 + ((v.toInt - 2700) * 30) / 150
      else if v.toInt ≥ 2550 then 20 + ((v.toInt - 2550) * 30) / 150
      else if v.toInt ≥ 2400 then 5 + ((v.toInt - 2400) * 15) / 150
      else if v.toInt ≥ 2300 then ((v.toInt - 2300) * 5) / 100
      else 0

/-- R135 items 1, 3 and 4: the curve is monotone, stays in 0..100, rises by exactly 1 at each segment boundary, and the simpler divisions an
implementation may use are exact. -/
def Obligations.EstPctShape : Prop :=
  (∀ v : BitVec 32, (estPct v).toNat ≤ 100) ∧
  (∀ v v' : BitVec 32, v.toInt ≤ v'.toInt → (estPct v).toNat ≤ (estPct v').toNat) ∧
  (∀ k : Nat, k ∈ [2400, 2550, 2700, 2850, 3000] →
    (estPct (BitVec.ofNat 32 k)).toNat = (estPct (BitVec.ofNat 32 (k - 1))).toNat + 1) ∧
  ∀ v : BitVec 32, 2300 ≤ v.toInt → v.toInt < 3000 →
    ((estPct v).toNat : Int) =
      if v.toInt ≥ 2850 then 80 + ((v.toInt - 2850) * 2) / 15
      else if v.toInt ≥ 2700 then 50 + (v.toInt - 2700) / 5
      else if v.toInt ≥ 2550 then 20 + (v.toInt - 2550) / 5
      else if v.toInt ≥ 2400 then 5 + (v.toInt - 2400) / 10
      else (v.toInt - 2300) / 20

/-- R136: the read-only table (95_test_vectors.md section 2.4) and the interpolation agree on every int32 input. -/
def Obligations.RomAgreesWithCurve : Prop :=
  ∀ v : BitVec 32, estPctRom v = estPct v

/-- R130, R138, R180: where the ADC answers `ok(raw)`, `READ_MV` answers the scaled sample; where it answers `fail`, `AdcFailed` with data 0;
exactly one `AdcReadRaw` call is made, and no register is written. -/
def Obligations.ReadMvAnswersOneScaledSample : Prop :=
  ∀ s : State, (s.drawAt 0).reply ≠ .never →
    exec .readMv s = .next { s with
      busy := false
      rsp := some (if (s.drawAt 0).reply = .ok then ⟨.ok, 0#40 ++ rawToMv s.params (s.drawAt 0).raw⟩
        else ⟨.adcFailed, 0⟩)
      now := s.now + (s.drawAt 0).elapsed
      physReg := (s.drawAt 0).rewrite.getD s.physReg
      script := s.script.tail
      drawn := s.drawn + 1
      trace := ⟨.adcReadRaw s.params.adcChannel s.params.adcResBits s.params.adcGain s.params.adcReference,
        (s.drawAt 0).reply, s.now + (s.drawAt 0).elapsed⟩ :: s.trace }

/-- R131, R137: with admissible parameters the millivolts are the exact product divided once, truncating toward zero, with no
wrap-around; and the full-scale code maps exactly to the reference times the divider. -/
def Obligations.RawToMvIsExactQuotient : Prop :=
  ∀ p : Params, p.ok = true →
    (∀ raw : BitVec 16,
      (rawToMv p raw).toInt = Int.tdiv (raw.toInt * p.adcRefMv * p.adcDivider) (2 ^ p.adcResBits - 1)) ∧
    (rawToMv p (BitVec.ofNat 16 (2 ^ p.adcResBits - 1))).toInt = p.adcRefMv * p.adcDivider

/-! ## The sensor power controller (R100-R116) -/

/-- R101, R102, R103: where the four calls succeed, `INIT` writes the value read back into the cache, makes the core `READY` and the sensor
state `OFF`, and answers `OK` with that value; the calls are made in this order and nothing else changes. -/
def Obligations.InitReadsBackIntoCache : Prop :=
  ∀ s : State, s.ctl = .uninit → (∀ n < 4, (s.drawAt n).reply = .ok) →
    ∃ v : BitVec 16,
      v = (s.drawAt 3).rewrite.getD ((s.drawAt 2).rewrite.getD ((s.drawAt 1).rewrite.getD
        ((s.drawAt 0).rewrite.getD s.physReg))) ∧
      ∃ t₀ t₁ t₂ t₃ : Nat, s.now ≤ t₀ ∧ t₀ ≤ t₁ ∧ t₁ ≤ t₂ ∧ t₂ ≤ t₃ ∧
      exec .init s = .next { s with
        ctl := .ready
        pstate := .off
        cache := some v
        physReg := v
        busy := false
        rsp := some ⟨.ok, 0#56 ++ v⟩
        now := t₃
        script := s.script.drop 4
        drawn := s.drawn + 4
        trace := ⟨.busRead s.params.pwrRegAddr, .ok, t₃⟩
          :: ⟨.cfgSet .gain s.params.gainValue, .ok, t₂⟩
          :: ⟨.cfgSet .integrationTime s.params.itValue, .ok, t₁⟩
          :: ⟨.devReady, .ok, t₀⟩ :: s.trace }

/-- R101, R104, R184: each of the four calls of `INIT` that fails first ends it: `NotReady` for the first, `ConfigFailed` for the others, `ctl`
and `fatal_code` latched, no later call made, cache and `pstate` as before. -/
def Obligations.InitFailureIsFatal : Prop :=
  ∀ (s : State) (k : Nat), s.ctl = .uninit → k < 4 → (∀ n < k, (s.drawAt n).reply = .ok) →
    (s.drawAt k).reply = .fail →
    ∃ t, exec .init s = .next t ∧
      (k = 0 → t.rsp = some ⟨.notReady, 0⟩ ∧ t.fatalCode = 0x01) ∧
      (0 < k → t.rsp = some ⟨.configFailed, 0⟩ ∧ t.fatalCode = 0x02) ∧
      t.ctl = .fatal ∧ t.busy = false ∧ t.cache = s.cache ∧ t.pstate = s.pstate ∧ t.wstage = s.wstage ∧
      t.drawn = s.drawn + k + 1 ∧
      t.trace.map Event.call
        = (([.devReady, .cfgSet .integrationTime s.params.itValue, .cfgSet .gain s.params.gainValue,
            .busRead s.params.pwrRegAddr] : List Call).take (k + 1)).reverse ++ s.trace.map Event.call

/-- R105: a second `INIT`, and a sensor command before `INIT`, are contract violations: no collaborator call, no state change. -/
def Obligations.LifecycleViolationsRefused : Prop :=
  ∀ s : State,
    (s.ctl = .ready →
      exec .init s = .next { s with busy := false, rsp := some ⟨.contractViolation, 0⟩ }) ∧
    (s.ctl = .uninit → ∀ i ∈ ([.activate, .deactivate, .sampleLux] : List Instr),
      exec i s = .next { s with busy := false, rsp := some ⟨.contractViolation, 0⟩ })

/-- R106, R107, R109: where its write succeeds, `ACTIVATE` from `OFF` or `ACTIVE` puts the cached value with the shutdown bit cleared into the
sensor and the cache, and enters `WARMING` with the first settle delay started at that moment; it is not answered yet. -/
def Obligations.ActivateEntersWarmUp : Prop :=
  ∀ (s : State) (c : BitVec 16), s.ctl = .ready → s.cache = some c → (s.drawAt 0).reply = .ok →
    exec .activate s = .next { s with
      cache := some (c &&& ~~~s.params.sdMask)
      physReg := c &&& ~~~s.params.sdMask
      pstate := .warming
      wstage := .w1
      wDeadline := s.now + (s.drawAt 0).elapsed + s.params.tStartUs
      now := s.now + (s.drawAt 0).elapsed
      script := s.script.tail
      drawn := s.drawn + 1
      trace := ⟨.busWrite s.params.pwrRegAddr (c &&& ~~~s.params.sdMask), .ok, s.now + (s.drawAt 0).elapsed⟩
        :: s.trace }

/-- R108, R114: where its write fails, `ACTIVATE` or `DEACTIVATE` answers `WriteFailed` at once; `cache`, `pstate`, `wstage` and the physical
register are unchanged (the register by this write: another agent's rewrite, if drawn, stands: log 18, the model's). -/
def Obligations.FailedPowerWriteChangesNothing : Prop :=
  ∀ (s : State) (c : BitVec 16) (i : Instr) (v : BitVec 16), s.ctl = .ready → s.cache = some c →
    (s.drawAt 0).reply = .fail →
    (i = .activate ∧ v = c &&& ~~~s.params.sdMask) ∨ (i = .deactivate ∧ v = c ||| s.params.sdMask) →
    exec i s = .next { s with
      busy := false
      rsp := some ⟨.writeFailed, 0⟩
      physReg := (s.drawAt 0).rewrite.getD s.physReg
      now := s.now + (s.drawAt 0).elapsed
      script := s.script.tail
      drawn := s.drawn + 1
      trace := ⟨.busWrite s.params.pwrRegAddr v, .fail, s.now + (s.drawAt 0).elapsed⟩ :: s.trace }

/-- R109, R110: a step in `W1` lets time pass; the stage ends at or after its deadline, never before, and the second delay starts then.
That it ends in the very step whose clock reaches the deadline is log 21, the model's choice. -/
def Obligations.FirstSettleDelayHolds : Prop :=
  ∀ s : State, s.resetIn = false → s.busy = true → s.pending = none → s.wstage = .w1 →
    ∃ t, step s = .next t ∧ t.now = s.now + (s.drawAt 0).elapsed ∧ t.busy = true ∧ t.pstate = s.pstate ∧
      t.rsp = s.rsp ∧ t.cache = s.cache ∧
      (t.now < s.wDeadline → t.wstage = .w1 ∧ t.wDeadline = s.wDeadline) ∧
      (s.wDeadline ≤ t.now → t.wstage = .w2 ∧ t.wDeadline = t.now + s.params.tIntUs + 50000)

/-- R110, R111: a step in `W2` lets time pass; at or after its deadline, never before, `pstate` becomes `ACTIVE` and `ACTIVATE` answers
`OK` in the same transition, whatever the environment answers (no call is made). The rules bound the wait from below only: that it ends in
the very step whose clock reaches the deadline is log 21, the model's choice. -/
def Obligations.SecondSettleDelayHolds : Prop :=
  ∀ s : State, s.resetIn = false → s.busy = true → s.pending = none → s.wstage = .w2 →
    ∃ t, step s = .next t ∧ t.now = s.now + (s.drawAt 0).elapsed ∧ t.cache = s.cache ∧ t.trace = s.trace ∧
      (t.now < s.wDeadline → t.wstage = .w2 ∧ t.wDeadline = s.wDeadline ∧ t.pstate = s.pstate ∧ t.busy = true ∧
        t.rsp = s.rsp) ∧
      (s.wDeadline ≤ t.now → t.wstage = .wNone ∧ t.pstate = .active ∧ t.busy = false ∧ t.rsp = some ⟨.ok, 0⟩)

/-- R106 to R111: an `ACTIVATE` offered on the port whose write succeeds, and whose two waits each reach their deadline in one step, is
answered `OK`, `ACTIVE`, no earlier than the whole settle time after the write was acknowledged. That it takes three steps, the write in
the accepting one, is log 9; that each wait ends in the first step that reaches its deadline is log 21: both the model's choices. -/
def Obligations.ActivateCompletesAfterBothDelays : Prop :=
  ∀ (s : State) (c : BitVec 16), s.aboutToAccept (encode .activate) → s.ctl = .ready → s.cache = some c →
    s.pending = none → (s.drawAt 1).reply = .ok → s.params.tStartUs ≤ (s.drawAt 2).elapsed →
    s.params.tIntUs + 50000 ≤ (s.drawAt 3).elapsed →
    ∃ t, Host.Core.run Sys2Proof.core 3 s = .next t ∧ t.pstate = .active ∧ t.wstage = .wNone ∧ t.busy = false ∧
      t.rsp = some ⟨.ok, 0⟩ ∧ t.cache = some (c &&& ~~~s.params.sdMask) ∧
      s.now + (s.drawAt 0).elapsed + (s.drawAt 1).elapsed + s.params.tStartUs + s.params.tIntUs + 50000 ≤ t.now

/-- R113: where its write succeeds, `DEACTIVATE` from `OFF` or `ACTIVE` puts the cached value with the shutdown bit set into the sensor and
the cache, makes the sensor state `OFF` and answers `OK` at once. -/
def Obligations.DeactivateShutsDown : Prop :=
  ∀ (s : State) (c : BitVec 16), s.ctl = .ready → s.cache = some c → (s.drawAt 0).reply = .ok →
    exec .deactivate s = .next { s with
      cache := some (c ||| s.params.sdMask)
      physReg := c ||| s.params.sdMask
      pstate := .off
      busy := false
      rsp := some ⟨.ok, 0⟩
      now := s.now + (s.drawAt 0).elapsed
      script := s.script.tail
      drawn := s.drawn + 1
      trace := ⟨.busWrite s.params.pwrRegAddr (c ||| s.params.sdMask), .ok, s.now + (s.drawAt 0).elapsed⟩ :: s.trace }

/-- R115: `SAMPLE_LUX` in `ACTIVE` fetches, reads the channel, and answers whatever microlux the sensor gives; no register is written. -/
def Obligations.SampleLuxAnswersReading : Prop :=
  ∀ s : State, s.ctl = .ready → s.pstate = .active → (s.drawAt 0).reply = .ok → (s.drawAt 1).reply = .ok →
    exec .sampleLux s = .next { s with
      busy := false
      rsp := some ⟨.ok, 0#8 ++ (s.drawAt 1).lux⟩
      now := s.now + (s.drawAt 0).elapsed + (s.drawAt 1).elapsed
      physReg := (s.drawAt 1).rewrite.getD ((s.drawAt 0).rewrite.getD s.physReg)
      script := s.script.tail.tail
      drawn := s.drawn + 2
      trace := ⟨.sensorGetLux, .ok, s.now + (s.drawAt 0).elapsed + (s.drawAt 1).elapsed⟩
        :: ⟨.sensorFetch, .ok, s.now + (s.drawAt 0).elapsed⟩ :: s.trace }

/-- R115, R184: a failed fetch answers `FetchFailed` and the channel is not read; a failed read answers `ReadFailed`; `pstate` stays
`ACTIVE` and no register is written. -/
def Obligations.SampleLuxReportsFailedStep : Prop :=
  ∀ s : State, s.ctl = .ready → s.pstate = .active →
    ((s.drawAt 0).reply = .fail → ∃ t, exec .sampleLux s = .next t ∧ t.rsp = some ⟨.fetchFailed, 0⟩ ∧ t.busy = false ∧
      t.trace.map Event.call = .sensorFetch :: s.trace.map Event.call ∧ t.drawn = s.drawn + 1 ∧
      t.pstate = .active ∧ t.ctl = .ready ∧ t.cache = s.cache) ∧
    ((s.drawAt 0).reply = .ok → (s.drawAt 1).reply = .fail →
      ∃ t, exec .sampleLux s = .next t ∧ t.rsp = some ⟨.readFailed, 0⟩ ∧ t.busy = false ∧
        t.trace.map Event.call = .sensorGetLux :: .sensorFetch :: s.trace.map Event.call ∧ t.drawn = s.drawn + 2 ∧
        t.pstate = .active ∧ t.ctl = .ready ∧ t.cache = s.cache)

/-- R116: `SAMPLE_LUX` in `READY` but not `ACTIVE` answers `NotActive`: no call, no state change. -/
def Obligations.SampleLuxRefusedUnlessActive : Prop :=
  ∀ s : State, s.ctl = .ready → s.pstate ≠ .active →
    exec .sampleLux s = .next { s with busy := false, rsp := some ⟨.notActive, 0⟩ }

/-- R116, R111, R21 item 7: no lux reading can be obtained unless the last successful power-control write cleared the shutdown bit, at
least the whole settle time ago. `lastPowerWrite` is the newest one in the history, whatever it wrote. -/
def Obligations.NoReadingBeforeSettleTime : Prop :=
  ∀ (s t : State) (d : Data), Inv s → s.aboutToAccept (encode .sampleLux) → step s = .next t →
    t.rsp = some ⟨.ok, d⟩ →
    ∃ v t₀, lastPowerWrite s.params s.trace = some (v, t₀) ∧ v &&& s.params.sdMask = 0 ∧
      t₀ + s.params.tStartUs + s.params.tIntUs + 50000 ≤ s.now

/-- R185, R180: a command, other than `INIT`, that ends with a status that is not `OK` has changed no state of the core. -/
def Obligations.ErrorsArePrecise : Prop :=
  ∀ (i : Instr) (s t : State) (r : Response), i ≠ .init → s.rsp = none → exec i s = .next t →
    t.rsp = some r → r.status ≠ .ok →
    t.ctl = s.ctl ∧ t.pstate = s.pstate ∧ t.cache = s.cache ∧ t.fatalCode = s.fatalCode ∧ t.wstage = s.wstage ∧
      t.wDeadline = s.wDeadline ∧ t.busy = false ∧ r.data = 0

/-- R7.3, R22, R16: every command leaves the sequencer's registers, the port's offered word, the reset input, the parameters and every
byte of the record alone. -/
def Obligations.CommandsLeaveSequencerAlone : Prop :=
  ∀ (i : Instr) (s t : State), exec i s = .next t →
    t.phase = s.phase ∧ t.enc = s.enc ∧ t.sLux = s.sLux ∧ t.sMv = s.sMv ∧ t.tWake = s.tWake ∧
      (∀ k : Fin 9, t.recordByte k = s.recordByte k) ∧ t.record = s.record ∧ t.cmd = s.cmd ∧ t.cur = s.cur ∧
      t.driver = s.driver ∧ t.resetIn = s.resetIn ∧ t.params = s.params

/-- R100, the table of `pstate` transitions, complete: a step that is no reset leaves `pstate` as it is, or enters `WARMING` by an accepted
`ACTIVATE`, or `ACTIVE` at the end of the second delay, or `OFF` by an accepted `DEACTIVATE`. In an accepting step draw 0 is the step's
time, draw 1 the write (log 9). -/
def Obligations.PowerStateChangesOnlyByItsTable : Prop :=
  ∀ s t : State, Inv s → s.resetIn = false → step s = .next t →
    t.pstate = s.pstate ∨
    (t.pstate = .warming ∧ (s.pstate = .off ∨ s.pstate = .active) ∧ s.cmd = some (encode .activate) ∧
      (s.drawAt 1).reply = .ok) ∨
    (s.pstate = .warming ∧ t.pstate = .active ∧ s.wstage = .w2 ∧ s.wDeadline ≤ t.now ∧ t.rsp = some ⟨.ok, 0⟩) ∨
    (s.pstate = .active ∧ t.pstate = .off ∧ s.cmd = some (encode .deactivate) ∧ (s.drawAt 1).reply = .ok)

/-- R13: once written, the cache changes only in the shutdown bit, until reset. -/
def Obligations.OnlyShutdownBitOfCacheChanges : Prop :=
  ∀ (s t : State) (c : BitVec 16), Inv s → s.resetIn = false → s.cache = some c → step s = .next t →
    ∃ c', t.cache = some c' ∧ c' &&& ~~~s.params.sdMask = c &&& ~~~s.params.sdMask

/-- R21 item 5, read with R106 (log 22): once shut down, the sensor stays off with the shutdown bit set in the cache until an accepted
`ACTIVATE` whose write succeeds, or reset. -/
def Obligations.ShutdownLastsUntilActivate : Prop :=
  ∀ (s t : State) (c : BitVec 16), Inv s → s.resetIn = false → s.ctl = .ready → s.pstate = .off → s.cache = some c →
    c &&& s.params.sdMask = s.params.sdMask → step s = .next t →
    (t.pstate = .off ∧ t.cache = some c) ∨
    (t.pstate = .warming ∧ s.cmd = some (encode .activate) ∧ (s.drawAt 1).reply = .ok)

/-- R20, C5: where none of the choices a step can draw rewrites the power-control register, every step that is no reset keeps the cache equal
to it. A drawn rewrite is another agent's write, or the block's own unanswered one reaching the sensor: that is how the model says
both (log 18, log 10). -/
def Obligations.CacheTracksRegisterWithoutOtherWriters : Prop :=
  ∀ (s t : State), s.resetIn = false → (∀ n < 5, (s.drawAt n).rewrite = none) →
    (∀ c, s.cache = some c → c = s.physReg) → step s = .next t → ∀ c, t.cache = some c → c = t.physReg

/-- R20, R212, R213: time never runs backwards, and no step changes a parameter. -/
def Obligations.ClockAdvancesParametersStay : Prop :=
  ∀ s t : State, step s = .next t → s.now ≤ t.now ∧ t.params = s.params

/-! ## The sequencer (R150-R168) -/

/-- R151, R153, R154, R155, R163, R70: in its turn, with no response waiting, the sequencer offers the word of its phase's command (after
the step's time, R222 (c), log 9, as in the statements below). -/
def Obligations.SequencerOffersItsPhasesCommand : Prop :=
  ∀ (s : State) (w : CmdWord), s.sequencerTurn → s.rsp = none →
    (s.phase, w) ∈ ([(.boot, 0x010000000000000000), (.activating, 0x020000000000000000),
      (.samplingLux, 0x040000000000000000), (.samplingBattery, 0x200000000000000000),
      (.deactivating, 0x030000000000000000)] : List (Phase × CmdWord)) →
    step s = .next { s.tick with cmd := some w }

/-- R151, R153, R168: the phases that branch on a status: the response to `INIT` starts the loop or halts the sequencer; a failed activation
skips the lux sample. -/
def Obligations.SequencerBranchesOnStatus : Prop :=
  ∀ (s : State) (r : Response), s.sequencerTurn → s.rsp = some r →
    (s.phase = .boot → r.status = .ok → step s = .next { s.tick with phase := .idle, rsp := none }) ∧
    (s.phase = .boot → r.status = .notReady ∨ r.status = .configFailed →
      step s = .next { s.tick with phase := .halted, rsp := none }) ∧
    (s.phase = .activating → r.status = .ok → step s = .next { s.tick with phase := .samplingLux, rsp := none }) ∧
    (s.phase = .activating → r.status = .writeFailed →
      step s = .next { s.tick with phase := .samplingBattery, rsp := none })

/-- R152: `IDLE` clears both samples and goes on at once. -/
def Obligations.IdleClearsSamples : Prop :=
  ∀ s : State, s.sequencerTurn → s.phase = .idle →
    step s = .next { s.tick with sLux := none, sMv := none, phase := .activating, rsp := none }

/-- R154, R155: a good sample is held, a failed one is not; in every case the cycle goes on. -/
def Obligations.SamplingNeverAbortsCycle : Prop :=
  ∀ (s : State) (r : Response), s.sequencerTurn → s.rsp = some r →
    (s.phase = .samplingLux →
      step s = .next { s.tick with
        sLux := if r.status = .ok then some (r.data.extractLsb' 0 64) else s.sLux
        phase := .samplingBattery
        rsp := none }) ∧
    (s.phase = .samplingBattery →
      step s = .next { s.tick with
        sMv := if r.status = .ok then some (r.data.extractLsb' 0 32) else s.sMv
        phase := .encoding
        enc := .lux
        rsp := none })

/-- R150, R153, R168: the sequencer's phases follow one another by their table and by nothing else, whatever command, hang or
wait a step is. -/
def Obligations.PhaseFollowsItsTable : Prop :=
  ∀ s t : State, s.resetIn = false → step s = .next t →
    t.phase = s.phase ∨
    (s.phase, t.phase) ∈ ([(.boot, .idle), (.boot, .halted), (.idle, .activating), (.activating, .samplingLux),
      (.activating, .samplingBattery), (.samplingLux, .samplingBattery), (.samplingBattery, .encoding),
      (.encoding, .publishing), (.publishing, .deactivating), (.deactivating, .sleeping),
      (.sleeping, .idle)] : List (Phase × Phase))

/-- R160, R161: the whole `ENCODING` phase, from its first line to `PUBLISHING`. The record gets a fresh lux value or keeps the stored one, and
the fresh percentage or 0xFF; the header is R41's; the core's registers and the history are as before. How many steps the phase takes is the
model's (log 16: three for each of its commands, one where it needs none); its time is unspecified (R222 (c), log 9), one drawn choice a
step, and the sensor's register is as before where none of those is a rewrite (log 18). -/
def Obligations.EncodingBuildsAndStoresRecord : Prop :=
  ∀ s : State, s.sequencerTurn → s.ctl ≠ .fatal → s.phase = .encoding → s.enc = .lux → s.rsp = none →
    Memory.wf s.params s.record = true →
    ∃ t, Host.Core.run Sys2Proof.core ((if s.sLux.isSome then 3 else 1) + (if s.sMv.isSome then 3 else 1) + 6) s
        = .next t ∧
      t.phase = .publishing ∧ t.rsp = none ∧ t.cmd = none ∧ t.busy = false ∧
      (∀ m, s.sLux = some m → t.storedLux = encLux m) ∧
      (s.sLux = none → t.recordByte 4 = s.recordByte 4 ∧ t.recordByte 5 = s.recordByte 5 ∧
        t.recordByte 6 = s.recordByte 6) ∧
      (∀ v, s.sMv = some v → t.recordByte 8 = estPct v) ∧
      (s.sMv = none → t.recordByte 8 = 0xFF) ∧
      t.recordByte 0 = s.params.serviceId.extractLsb' 0 8 ∧ t.recordByte 1 = s.params.serviceId.extractLsb' 8 8 ∧
      t.recordByte 2 = 0x40 ∧ t.recordByte 3 = 0x05 ∧ t.recordByte 7 = 0x01 ∧
      t.ctl = s.ctl ∧ t.pstate = s.pstate ∧ t.cache = s.cache ∧ s.now ≤ t.now ∧
      ((∀ n < (if s.sLux.isSome then 3 else 1) + (if s.sMv.isSome then 3 else 1) + 6, (s.drawAt n).rewrite = none) →
        t.physReg = s.physReg) ∧
      t.trace = s.trace ∧ t.sLux = s.sLux ∧ t.sMv = s.sMv

/-- R16, R50, R217: a step that is no reset and changes any byte of the record is the last of `ENCODING`, and it replaces all nine bytes with
the response's: no half-written record is ever seen. -/
def Obligations.RecordReplacedWholeOrNotAtAll : Prop :=
  ∀ s t : State, Memory.wf s.params s.record = true → s.resetIn = false → step s = .next t →
    (∀ k : Fin 9, t.recordByte k = s.recordByte k) ∨
    (∃ l b r, s.phase = .encoding ∧ s.enc = .build l b ∧ s.rsp = some r ∧ r.status = .ok ∧ t.phase = .publishing ∧
      ∀ k : Fin 9, t.recordByte k = r.data.extractLsb' (8 * k) 8)

/-- R162: `PUBLISHING` hands all nine bytes of the record to the publisher; whether it answers well or badly, the record stays and the
sensor is deactivated next. Draw 0 is the step's time, draw 1 the call (log 9). -/
def Obligations.PublishingHandsOverRecord : Prop :=
  ∀ s : State, s.sequencerTurn → s.phase = .publishing → (s.drawAt 1).reply ≠ .never →
    ∃ t, step s = .next t ∧ t.phase = .deactivating ∧ (∀ k : Fin 9, t.recordByte k = s.recordByte k) ∧
      t.trace = ⟨.publish [s.recordByte 0, s.recordByte 1, s.recordByte 2, s.recordByte 3, s.recordByte 4,
        s.recordByte 5, s.recordByte 6, s.recordByte 7, s.recordByte 8], (s.drawAt 1).reply,
        s.now + (s.drawAt 0).elapsed + (s.drawAt 1).elapsed⟩ :: s.trace ∧
      t.ctl = s.ctl ∧ t.pstate = s.pstate ∧ t.cache = s.cache ∧ t.sLux = s.sLux ∧ t.sMv = s.sMv

/-- R163: whatever `DEACTIVATE` answered, the sequencer sleeps, `t_wake` five seconds after the clock's reading then. -/
def Obligations.DeactivatingSetsWakeTime : Prop :=
  ∀ (s : State) (r : Response), s.sequencerTurn → s.phase = .deactivating → s.rsp = some r →
    r.status = .ok ∨ r.status = .writeFailed →
    ∃ t, step s = .next t ∧ t.phase = .sleeping ∧ t.tWake = t.now + 5000000 ∧ t.rsp = none ∧
      t.pstate = s.pstate ∧ t.cache = s.cache ∧ t.trace = s.trace

/-- R164: `SLEEPING` ends at or after `t_wake`, never before. -/
def Obligations.SleepLastsUntilWakeTime : Prop :=
  ∀ s : State, s.sequencerTurn → s.phase = .sleeping → s.rsp = none →
    ∃ t, step s = .next t ∧ t.now = s.now + (s.drawAt 0).elapsed ∧
      (t.now < s.tWake → t.phase = .sleeping ∧ t.tWake = s.tWake) ∧
      (s.tWake ≤ t.now → t.phase = .idle) ∧
      t.ctl = s.ctl ∧ t.pstate = s.pstate ∧ t.cache = s.cache ∧ t.trace = s.trace ∧
      ∀ k : Fin 9, t.recordByte k = s.recordByte k

/-! ## Reset (R210, R211) -/

/-- R210: the values the spec gives after reset, whatever the parameters. -/
def Obligations.ResetValues : Prop :=
  ∀ p : Params,
    (State.resetWith p).ctl = .uninit ∧ (State.resetWith p).pstate = .off ∧ (State.resetWith p).cache = none ∧
    (State.resetWith p).fatalCode = 0x00 ∧ (State.resetWith p).wstage = .wNone ∧ (State.resetWith p).busy = false ∧
    (State.resetWith p).phase = .boot ∧ (State.resetWith p).sLux = none ∧ (State.resetWith p).sMv = none ∧
    (State.resetWith p).rspValid = false ∧ (State.resetWith p).cmdReady = true ∧
    (State.resetWith p).recordBytes = [p.serviceId.extractLsb' 0 8, p.serviceId.extractLsb' 8 8, 0x40, 0x05,
      0x00, 0x00, 0x00, 0x01, 0xFF]

/-- R211: reset, asserted in any state, `FATAL` and `WARMING` included, gives every register its value of R210, without a response. -/
def Obligations.ResetWorksFromAnyState : Prop :=
  ∀ s : State, s.resetIn = true →
    ∃ t, step s = .next t ∧ t.ctl = .uninit ∧ t.pstate = .off ∧ t.cache = none ∧ t.fatalCode = 0x00 ∧
      t.wstage = .wNone ∧ t.busy = false ∧ t.rsp = none ∧ t.phase = .boot ∧ t.sLux = none ∧ t.sMv = none ∧
      t.pending = none ∧ t.params = s.params ∧ s.now ≤ t.now ∧
      t.recordBytes = [s.params.serviceId.extractLsb' 0 8, s.params.serviceId.extractLsb' 8 8, 0x40, 0x05,
        0x00, 0x00, 0x00, 0x01, 0xFF]

/-! ## The invariant (R21) -/

/-- R6, log 2 (the model's choice of free parameters): the parameters at reset meet R6's constraints. -/
def Obligations.ParametersAtResetAdmissible : Prop :=
  State.reset.params.ok = true

/-- R21: the invariant holds at reset. -/
def Obligations.InvariantHoldsAtReset : Prop :=
  Inv State.reset

/-- R21: every step, of a run driven by the sequencer or by a host with any words at all, keeps the invariant. -/
def Obligations.EveryStepKeepsInvariant : Prop :=
  ∀ s t : State, Inv s → step s = .next t → Inv t

/-- R154, R160, R186 (log 8): under the invariant the machine stops only because `INIT` failed, and never refuses. -/
def Obligations.OnlyFailedInitStops : Prop :=
  ∀ s : State, Inv s → (∃ t, step s = .next t) ∨ (step s = .fault (.initFailed s.fatalCode) ∧ s.ctl = .fatal)

/-- R105, R116, R85: the sequencer never misuses a command: in its runs no response is of the third class. -/
def Obligations.SequencerNeverMisusesCommands : Prop :=
  ∀ s t : State, Inv s → s.driver = .sequencer → step s = .next t → t.misused = false
end

