-- ==== Sys2Proof/Laws/Decode.lean ====
section
/-! SUPPORT. The two fields of a command word, and the operand fields of each format, taken apart and put together. -/

namespace Sys2Proof

@[simp] theorem opcodeOf_cmdWord (op : BitVec 8) (x : Operand) : opcodeOf (cmdWord op x) = op := by
  apply BitVec.eq_of_getLsbD_eq
  intro i hi
  simp only [opcodeOf, cmdWord, BitVec.getLsbD_extractLsb', BitVec.getLsbD_append]
  simp [hi]

@[simp] theorem operandOf_cmdWord (op : BitVec 8) (x : Operand) : operandOf (cmdWord op x) = x := by
  apply BitVec.eq_of_getLsbD_eq
  intro i hi
  simp only [operandOf, cmdWord, BitVec.getLsbD_extractLsb', BitVec.getLsbD_append]
  simp [hi]

/-- A word is its opcode and its operand. -/
theorem cmdWord_fields (w : CmdWord) : cmdWord (opcodeOf w) (operandOf w) = w := by
  apply BitVec.eq_of_getLsbD_eq
  intro i hi
  simp only [opcodeOf, operandOf, cmdWord, BitVec.getLsbD_extractLsb', BitVec.getLsbD_append]
  by_cases h : i < 64
  · simp [h]
  · simp [h, show i - 64 < 8 by omega, show 64 + (i - 64) = i by omega]

/-- The formats' reserved bits of a word put together from fields are zero, and the fields come back (R61). -/
theorem formP_fields (u : Bool) (p : BitVec 8) : formP (0#55 ++ BitVec.ofBool u ++ p) = .ok (.encBatt u p) := by
  have h : (0#55 ++ BitVec.ofBool u ++ p).extractLsb' 9 55 = 0 := by
    apply BitVec.eq_of_getLsbD_eq
    intro i hi
    simp only [BitVec.getLsbD_extractLsb', BitVec.getLsbD_append]
    simp [show ¬ 9 + i < 8 by omega, show ¬ 9 + i - 8 < 1 by omega]
  have hu : (0#55 ++ BitVec.ofBool u ++ p).getLsbD 8 = u := by
    simp only [BitVec.getLsbD_append]
    simp
  have hp : (0#55 ++ BitVec.ofBool u ++ p).extractLsb' 0 8 = p := by
    apply BitVec.eq_of_getLsbD_eq
    intro i hi
    simp only [BitVec.getLsbD_extractLsb', BitVec.getLsbD_append]
    simp [hi]
  unfold formP ifReservedZero
  rw [if_pos h, hu, hp]

theorem formB_fields (l : BitVec 24) (b : BitVec 8) : formB (0#32 ++ b ++ l) = .ok (.buildRec l b) := by
  have h : (0#32 ++ b ++ l).extractLsb' 32 32 = 0 := by
    apply BitVec.eq_of_getLsbD_eq
    intro i hi
    simp only [BitVec.getLsbD_extractLsb', BitVec.getLsbD_append]
    simp [show ¬ 32 + i < 24 by omega, show ¬ 32 + i - 24 < 8 by omega]
  have hl : (0#32 ++ b ++ l).extractLsb' 0 24 = l := by
    apply BitVec.eq_of_getLsbD_eq
    intro i hi
    simp only [BitVec.getLsbD_extractLsb', BitVec.getLsbD_append]
    simp [hi]
  have hb : (0#32 ++ b ++ l).extractLsb' 24 8 = b := by
    apply BitVec.eq_of_getLsbD_eq
    intro i hi
    simp only [BitVec.getLsbD_extractLsb', BitVec.getLsbD_append]
    simp [hi, show ¬ 24 + i < 24 by omega]
  unfold formB ifReservedZero
  rw [if_pos h, hl, hb]

theorem formM_fields (v : BitVec 32) : formM (0#32 ++ v) = .ok (.estPct v) := by
  have h : (0#32 ++ v).extractLsb' 32 32 = 0 := by
    apply BitVec.eq_of_getLsbD_eq
    intro i hi
    simp only [BitVec.getLsbD_extractLsb', BitVec.getLsbD_append]
    simp [show ¬ 32 + i < 32 by omega]
  have hv : (0#32 ++ v).extractLsb' 0 32 = v := by
    apply BitVec.eq_of_getLsbD_eq
    intro i hi
    simp only [BitVec.getLsbD_extractLsb', BitVec.getLsbD_append]
    simp [hi]
  unfold formM ifReservedZero
  rw [if_pos h, hv]

end Sys2Proof
end

