-- ==== Sys2Proof/Laws/State.lean ====
section
/-! SUPPORT. What each update of the state leaves in each field: one lemma per field per update, so that no proof unfolds a record
update. -/

namespace Sys2Proof.Machine

variable (s : State)

/-! ### `tick`: time passes, the environment chooses -/

@[simp] theorem State.tick_ctl : s.tick.ctl = s.ctl := rfl
@[simp] theorem State.tick_pstate : s.tick.pstate = s.pstate := rfl
@[simp] theorem State.tick_cache : s.tick.cache = s.cache := rfl
@[simp] theorem State.tick_fatalCode : s.tick.fatalCode = s.fatalCode := rfl
@[simp] theorem State.tick_wstage : s.tick.wstage = s.wstage := rfl
@[simp] theorem State.tick_wDeadline : s.tick.wDeadline = s.wDeadline := rfl
@[simp] theorem State.tick_busy : s.tick.busy = s.busy := rfl
@[simp] theorem State.tick_cur : s.tick.cur = s.cur := rfl
@[simp] theorem State.tick_cmd : s.tick.cmd = s.cmd := rfl
@[simp] theorem State.tick_rsp : s.tick.rsp = s.rsp := rfl
@[simp] theorem State.tick_record : s.tick.record = s.record := rfl
@[simp] theorem State.tick_phase : s.tick.phase = s.phase := rfl
@[simp] theorem State.tick_sLux : s.tick.sLux = s.sLux := rfl
@[simp] theorem State.tick_sMv : s.tick.sMv = s.sMv := rfl
@[simp] theorem State.tick_tWake : s.tick.tWake = s.tWake := rfl
@[simp] theorem State.tick_physReg : s.tick.physReg = (s.drawAt 0).rewrite.getD s.physReg := rfl
@[simp] theorem State.tick_now : s.tick.now = s.now + (s.drawAt 0).elapsed := rfl
@[simp] theorem State.tick_params : s.tick.params = s.params := rfl
@[simp] theorem State.tick_resetIn : s.tick.resetIn = s.resetIn := rfl
@[simp] theorem State.tick_driver : s.tick.driver = s.driver := rfl
@[simp] theorem State.tick_enc : s.tick.enc = s.enc := rfl
@[simp] theorem State.tick_pending : s.tick.pending = s.pending := rfl
@[simp] theorem State.tick_script : s.tick.script = s.script.tail := rfl
@[simp] theorem State.tick_drawn : s.tick.drawn = s.drawn + 1 := rfl
@[simp] theorem State.tick_trace : s.tick.trace = s.trace := rfl

/-! ### `call`: a collaborator is called -/

@[simp] theorem State.call_ctl (c : Call) : (s.call c).ctl = s.ctl := rfl
@[simp] theorem State.call_pstate (c : Call) : (s.call c).pstate = s.pstate := rfl
@[simp] theorem State.call_cache (c : Call) : (s.call c).cache = s.cache := rfl
@[simp] theorem State.call_fatalCode (c : Call) : (s.call c).fatalCode = s.fatalCode := rfl
@[simp] theorem State.call_wstage (c : Call) : (s.call c).wstage = s.wstage := rfl
@[simp] theorem State.call_wDeadline (c : Call) : (s.call c).wDeadline = s.wDeadline := rfl
@[simp] theorem State.call_busy (c : Call) : (s.call c).busy = s.busy := rfl
@[simp] theorem State.call_cur (c : Call) : (s.call c).cur = s.cur := rfl
@[simp] theorem State.call_cmd (c : Call) : (s.call c).cmd = s.cmd := rfl
@[simp] theorem State.call_rsp (c : Call) : (s.call c).rsp = s.rsp := rfl
@[simp] theorem State.call_record (c : Call) : (s.call c).record = s.record := rfl
@[simp] theorem State.call_phase (c : Call) : (s.call c).phase = s.phase := rfl
@[simp] theorem State.call_sLux (c : Call) : (s.call c).sLux = s.sLux := rfl
@[simp] theorem State.call_sMv (c : Call) : (s.call c).sMv = s.sMv := rfl
@[simp] theorem State.call_tWake (c : Call) : (s.call c).tWake = s.tWake := rfl
@[simp] theorem State.call_physReg (c : Call) : (s.call c).physReg = (s.drawAt 0).rewrite.getD s.physReg := rfl
@[simp] theorem State.call_now (c : Call) : (s.call c).now = s.now + (s.drawAt 0).elapsed := rfl
@[simp] theorem State.call_params (c : Call) : (s.call c).params = s.params := rfl
@[simp] theorem State.call_resetIn (c : Call) : (s.call c).resetIn = s.resetIn := rfl
@[simp] theorem State.call_driver (c : Call) : (s.call c).driver = s.driver := rfl
@[simp] theorem State.call_enc (c : Call) : (s.call c).enc = s.enc := rfl
@[simp] theorem State.call_pending (c : Call) : (s.call c).pending = if (s.drawAt 0).reply = .never then some c else s.pending := rfl
@[simp] theorem State.call_script (c : Call) : (s.call c).script = s.script.tail := rfl
@[simp] theorem State.call_drawn (c : Call) : (s.call c).drawn = s.drawn + 1 := rfl
@[simp] theorem State.call_trace (c : Call) : (s.call c).trace = ⟨c, (s.drawAt 0).reply, s.now + (s.drawAt 0).elapsed⟩ :: s.trace := rfl

/-! ### `sensorTakes`: the sensor takes a write -/

@[simp] theorem State.sensorTakes_ctl (v : BitVec 16) : (s.sensorTakes v).ctl = s.ctl := rfl
@[simp] theorem State.sensorTakes_pstate (v : BitVec 16) : (s.sensorTakes v).pstate = s.pstate := rfl
@[simp] theorem State.sensorTakes_cache (v : BitVec 16) : (s.sensorTakes v).cache = s.cache := rfl
@[simp] theorem State.sensorTakes_fatalCode (v : BitVec 16) : (s.sensorTakes v).fatalCode = s.fatalCode := rfl
@[simp] theorem State.sensorTakes_wstage (v : BitVec 16) : (s.sensorTakes v).wstage = s.wstage := rfl
@[simp] theorem State.sensorTakes_wDeadline (v : BitVec 16) : (s.sensorTakes v).wDeadline = s.wDeadline := rfl
@[simp] theorem State.sensorTakes_busy (v : BitVec 16) : (s.sensorTakes v).busy = s.busy := rfl
@[simp] theorem State.sensorTakes_cur (v : BitVec 16) : (s.sensorTakes v).cur = s.cur := rfl
@[simp] theorem State.sensorTakes_cmd (v : BitVec 16) : (s.sensorTakes v).cmd = s.cmd := rfl
@[simp] theorem State.sensorTakes_rsp (v : BitVec 16) : (s.sensorTakes v).rsp = s.rsp := rfl
@[simp] theorem State.sensorTakes_record (v : BitVec 16) : (s.sensorTakes v).record = s.record := rfl
@[simp] theorem State.sensorTakes_phase (v : BitVec 16) : (s.sensorTakes v).phase = s.phase := rfl
@[simp] theorem State.sensorTakes_sLux (v : BitVec 16) : (s.sensorTakes v).sLux = s.sLux := rfl
@[simp] theorem State.sensorTakes_sMv (v : BitVec 16) : (s.sensorTakes v).sMv = s.sMv := rfl
@[simp] theorem State.sensorTakes_tWake (v : BitVec 16) : (s.sensorTakes v).tWake = s.tWake := rfl
@[simp] theorem State.sensorTakes_physReg (v : BitVec 16) : (s.sensorTakes v).physReg = v := rfl
@[simp] theorem State.sensorTakes_now (v : BitVec 16) : (s.sensorTakes v).now = s.now := rfl
@[simp] theorem State.sensorTakes_params (v : BitVec 16) : (s.sensorTakes v).params = s.params := rfl
@[simp] theorem State.sensorTakes_resetIn (v : BitVec 16) : (s.sensorTakes v).resetIn = s.resetIn := rfl
@[simp] theorem State.sensorTakes_driver (v : BitVec 16) : (s.sensorTakes v).driver = s.driver := rfl
@[simp] theorem State.sensorTakes_enc (v : BitVec 16) : (s.sensorTakes v).enc = s.enc := rfl
@[simp] theorem State.sensorTakes_pending (v : BitVec 16) : (s.sensorTakes v).pending = s.pending := rfl
@[simp] theorem State.sensorTakes_script (v : BitVec 16) : (s.sensorTakes v).script = s.script := rfl
@[simp] theorem State.sensorTakes_drawn (v : BitVec 16) : (s.sensorTakes v).drawn = s.drawn := rfl
@[simp] theorem State.sensorTakes_trace (v : BitVec 16) : (s.sensorTakes v).trace = s.trace := rfl

/-! ### `accept`: a word is accepted -/

@[simp] theorem State.accept_ctl (w : CmdWord) : (s.accept w).ctl = s.ctl := rfl
@[simp] theorem State.accept_pstate (w : CmdWord) : (s.accept w).pstate = s.pstate := rfl
@[simp] theorem State.accept_cache (w : CmdWord) : (s.accept w).cache = s.cache := rfl
@[simp] theorem State.accept_fatalCode (w : CmdWord) : (s.accept w).fatalCode = s.fatalCode := rfl
@[simp] theorem State.accept_wstage (w : CmdWord) : (s.accept w).wstage = s.wstage := rfl
@[simp] theorem State.accept_wDeadline (w : CmdWord) : (s.accept w).wDeadline = s.wDeadline := rfl
@[simp] theorem State.accept_busy (w : CmdWord) : (s.accept w).busy = true := rfl
@[simp] theorem State.accept_cur (w : CmdWord) : (s.accept w).cur = w := rfl
@[simp] theorem State.accept_cmd (w : CmdWord) : (s.accept w).cmd = none := rfl
@[simp] theorem State.accept_rsp (w : CmdWord) : (s.accept w).rsp = none := rfl
@[simp] theorem State.accept_record (w : CmdWord) : (s.accept w).record = s.record := rfl
@[simp] theorem State.accept_phase (w : CmdWord) : (s.accept w).phase = s.phase := rfl
@[simp] theorem State.accept_sLux (w : CmdWord) : (s.accept w).sLux = s.sLux := rfl
@[simp] theorem State.accept_sMv (w : CmdWord) : (s.accept w).sMv = s.sMv := rfl
@[simp] theorem State.accept_tWake (w : CmdWord) : (s.accept w).tWake = s.tWake := rfl
@[simp] theorem State.accept_physReg (w : CmdWord) : (s.accept w).physReg = s.physReg := rfl
@[simp] theorem State.accept_now (w : CmdWord) : (s.accept w).now = s.now := rfl
@[simp] theorem State.accept_params (w : CmdWord) : (s.accept w).params = s.params := rfl
@[simp] theorem State.accept_resetIn (w : CmdWord) : (s.accept w).resetIn = s.resetIn := rfl
@[simp] theorem State.accept_driver (w : CmdWord) : (s.accept w).driver = s.driver := rfl
@[simp] theorem State.accept_enc (w : CmdWord) : (s.accept w).enc = s.enc := rfl
@[simp] theorem State.accept_pending (w : CmdWord) : (s.accept w).pending = s.pending := rfl
@[simp] theorem State.accept_script (w : CmdWord) : (s.accept w).script = s.script := rfl
@[simp] theorem State.accept_drawn (w : CmdWord) : (s.accept w).drawn = s.drawn := rfl
@[simp] theorem State.accept_trace (w : CmdWord) : (s.accept w).trace = s.trace := rfl

/-! ### `respond`: a command is answered -/

@[simp] theorem State.respond_ctl (st : Status) (d : Data) : (s.respond st d).ctl = s.ctl := rfl
@[simp] theorem State.respond_pstate (st : Status) (d : Data) : (s.respond st d).pstate = s.pstate := rfl
@[simp] theorem State.respond_cache (st : Status) (d : Data) : (s.respond st d).cache = s.cache := rfl
@[simp] theorem State.respond_fatalCode (st : Status) (d : Data) : (s.respond st d).fatalCode = s.fatalCode := rfl
@[simp] theorem State.respond_wstage (st : Status) (d : Data) : (s.respond st d).wstage = s.wstage := rfl
@[simp] theorem State.respond_wDeadline (st : Status) (d : Data) : (s.respond st d).wDeadline = s.wDeadline := rfl
@[simp] theorem State.respond_busy (st : Status) (d : Data) : (s.respond st d).busy = false := rfl
@[simp] theorem State.respond_cur (st : Status) (d : Data) : (s.respond st d).cur = s.cur := rfl
@[simp] theorem State.respond_cmd (st : Status) (d : Data) : (s.respond st d).cmd = s.cmd := rfl
@[simp] theorem State.respond_rsp (st : Status) (d : Data) : (s.respond st d).rsp = some ⟨st, d⟩ := rfl
@[simp] theorem State.respond_record (st : Status) (d : Data) : (s.respond st d).record = s.record := rfl
@[simp] theorem State.respond_phase (st : Status) (d : Data) : (s.respond st d).phase = s.phase := rfl
@[simp] theorem State.respond_sLux (st : Status) (d : Data) : (s.respond st d).sLux = s.sLux := rfl
@[simp] theorem State.respond_sMv (st : Status) (d : Data) : (s.respond st d).sMv = s.sMv := rfl
@[simp] theorem State.respond_tWake (st : Status) (d : Data) : (s.respond st d).tWake = s.tWake := rfl
@[simp] theorem State.respond_physReg (st : Status) (d : Data) : (s.respond st d).physReg = s.physReg := rfl
@[simp] theorem State.respond_now (st : Status) (d : Data) : (s.respond st d).now = s.now := rfl
@[simp] theorem State.respond_params (st : Status) (d : Data) : (s.respond st d).params = s.params := rfl
@[simp] theorem State.respond_resetIn (st : Status) (d : Data) : (s.respond st d).resetIn = s.resetIn := rfl
@[simp] theorem State.respond_driver (st : Status) (d : Data) : (s.respond st d).driver = s.driver := rfl
@[simp] theorem State.respond_enc (st : Status) (d : Data) : (s.respond st d).enc = s.enc := rfl
@[simp] theorem State.respond_pending (st : Status) (d : Data) : (s.respond st d).pending = s.pending := rfl
@[simp] theorem State.respond_script (st : Status) (d : Data) : (s.respond st d).script = s.script := rfl
@[simp] theorem State.respond_drawn (st : Status) (d : Data) : (s.respond st d).drawn = s.drawn := rfl
@[simp] theorem State.respond_trace (st : Status) (d : Data) : (s.respond st d).trace = s.trace := rfl

/-! ### `reject`: a command ends with an error -/

@[simp] theorem State.reject_ctl (st : Status) : (s.reject st).ctl = s.ctl := rfl
@[simp] theorem State.reject_pstate (st : Status) : (s.reject st).pstate = s.pstate := rfl
@[simp] theorem State.reject_cache (st : Status) : (s.reject st).cache = s.cache := rfl
@[simp] theorem State.reject_fatalCode (st : Status) : (s.reject st).fatalCode = s.fatalCode := rfl
@[simp] theorem State.reject_wstage (st : Status) : (s.reject st).wstage = s.wstage := rfl
@[simp] theorem State.reject_wDeadline (st : Status) : (s.reject st).wDeadline = s.wDeadline := rfl
@[simp] theorem State.reject_busy (st : Status) : (s.reject st).busy = false := rfl
@[simp] theorem State.reject_cur (st : Status) : (s.reject st).cur = s.cur := rfl
@[simp] theorem State.reject_cmd (st : Status) : (s.reject st).cmd = s.cmd := rfl
@[simp] theorem State.reject_rsp (st : Status) : (s.reject st).rsp = some ⟨st, 0⟩ := rfl
@[simp] theorem State.reject_record (st : Status) : (s.reject st).record = s.record := rfl
@[simp] theorem State.reject_phase (st : Status) : (s.reject st).phase = s.phase := rfl
@[simp] theorem State.reject_sLux (st : Status) : (s.reject st).sLux = s.sLux := rfl
@[simp] theorem State.reject_sMv (st : Status) : (s.reject st).sMv = s.sMv := rfl
@[simp] theorem State.reject_tWake (st : Status) : (s.reject st).tWake = s.tWake := rfl
@[simp] theorem State.reject_physReg (st : Status) : (s.reject st).physReg = s.physReg := rfl
@[simp] theorem State.reject_now (st : Status) : (s.reject st).now = s.now := rfl
@[simp] theorem State.reject_params (st : Status) : (s.reject st).params = s.params := rfl
@[simp] theorem State.reject_resetIn (st : Status) : (s.reject st).resetIn = s.resetIn := rfl
@[simp] theorem State.reject_driver (st : Status) : (s.reject st).driver = s.driver := rfl
@[simp] theorem State.reject_enc (st : Status) : (s.reject st).enc = s.enc := rfl
@[simp] theorem State.reject_pending (st : Status) : (s.reject st).pending = s.pending := rfl
@[simp] theorem State.reject_script (st : Status) : (s.reject st).script = s.script := rfl
@[simp] theorem State.reject_drawn (st : Status) : (s.reject st).drawn = s.drawn := rfl
@[simp] theorem State.reject_trace (st : Status) : (s.reject st).trace = s.trace := rfl

/-! ### `rejectIllegal`: an illegal word is answered -/

@[simp] theorem State.rejectIllegal_ctl : s.rejectIllegal.ctl = s.ctl := rfl
@[simp] theorem State.rejectIllegal_pstate : s.rejectIllegal.pstate = s.pstate := rfl
@[simp] theorem State.rejectIllegal_cache : s.rejectIllegal.cache = s.cache := rfl
@[simp] theorem State.rejectIllegal_fatalCode : s.rejectIllegal.fatalCode = s.fatalCode := rfl
@[simp] theorem State.rejectIllegal_wstage : s.rejectIllegal.wstage = s.wstage := rfl
@[simp] theorem State.rejectIllegal_wDeadline : s.rejectIllegal.wDeadline = s.wDeadline := rfl
@[simp] theorem State.rejectIllegal_busy : s.rejectIllegal.busy = false := rfl
@[simp] theorem State.rejectIllegal_cur : s.rejectIllegal.cur = s.cur := rfl
@[simp] theorem State.rejectIllegal_cmd : s.rejectIllegal.cmd = s.cmd := rfl
@[simp] theorem State.rejectIllegal_rsp : s.rejectIllegal.rsp = some ⟨.illegalCommand, 0⟩ := rfl
@[simp] theorem State.rejectIllegal_record : s.rejectIllegal.record = s.record := rfl
@[simp] theorem State.rejectIllegal_phase : s.rejectIllegal.phase = s.phase := rfl
@[simp] theorem State.rejectIllegal_sLux : s.rejectIllegal.sLux = s.sLux := rfl
@[simp] theorem State.rejectIllegal_sMv : s.rejectIllegal.sMv = s.sMv := rfl
@[simp] theorem State.rejectIllegal_tWake : s.rejectIllegal.tWake = s.tWake := rfl
@[simp] theorem State.rejectIllegal_physReg : s.rejectIllegal.physReg = s.physReg := rfl
@[simp] theorem State.rejectIllegal_now : s.rejectIllegal.now = s.now := rfl
@[simp] theorem State.rejectIllegal_params : s.rejectIllegal.params = s.params := rfl
@[simp] theorem State.rejectIllegal_resetIn : s.rejectIllegal.resetIn = s.resetIn := rfl
@[simp] theorem State.rejectIllegal_driver : s.rejectIllegal.driver = s.driver := rfl
@[simp] theorem State.rejectIllegal_enc : s.rejectIllegal.enc = s.enc := rfl
@[simp] theorem State.rejectIllegal_pending : s.rejectIllegal.pending = s.pending := rfl
@[simp] theorem State.rejectIllegal_script : s.rejectIllegal.script = s.script := rfl
@[simp] theorem State.rejectIllegal_drawn : s.rejectIllegal.drawn = s.drawn := rfl
@[simp] theorem State.rejectIllegal_trace : s.rejectIllegal.trace = s.trace := rfl

/-! ### `failInit`: `INIT` fails -/

@[simp] theorem State.failInit_ctl (st : Status) : (State.failInit st s).ctl = .fatal := rfl
@[simp] theorem State.failInit_pstate (st : Status) : (State.failInit st s).pstate = s.pstate := rfl
@[simp] theorem State.failInit_cache (st : Status) : (State.failInit st s).cache = s.cache := rfl
@[simp] theorem State.failInit_fatalCode (st : Status) : (State.failInit st s).fatalCode = st.code := rfl
@[simp] theorem State.failInit_wstage (st : Status) : (State.failInit st s).wstage = s.wstage := rfl
@[simp] theorem State.failInit_wDeadline (st : Status) : (State.failInit st s).wDeadline = s.wDeadline := rfl
@[simp] theorem State.failInit_busy (st : Status) : (State.failInit st s).busy = false := rfl
@[simp] theorem State.failInit_cur (st : Status) : (State.failInit st s).cur = s.cur := rfl
@[simp] theorem State.failInit_cmd (st : Status) : (State.failInit st s).cmd = s.cmd := rfl
@[simp] theorem State.failInit_rsp (st : Status) : (State.failInit st s).rsp = some ⟨st, 0⟩ := rfl
@[simp] theorem State.failInit_record (st : Status) : (State.failInit st s).record = s.record := rfl
@[simp] theorem State.failInit_phase (st : Status) : (State.failInit st s).phase = s.phase := rfl
@[simp] theorem State.failInit_sLux (st : Status) : (State.failInit st s).sLux = s.sLux := rfl
@[simp] theorem State.failInit_sMv (st : Status) : (State.failInit st s).sMv = s.sMv := rfl
@[simp] theorem State.failInit_tWake (st : Status) : (State.failInit st s).tWake = s.tWake := rfl
@[simp] theorem State.failInit_physReg (st : Status) : (State.failInit st s).physReg = s.physReg := rfl
@[simp] theorem State.failInit_now (st : Status) : (State.failInit st s).now = s.now := rfl
@[simp] theorem State.failInit_params (st : Status) : (State.failInit st s).params = s.params := rfl
@[simp] theorem State.failInit_resetIn (st : Status) : (State.failInit st s).resetIn = s.resetIn := rfl
@[simp] theorem State.failInit_driver (st : Status) : (State.failInit st s).driver = s.driver := rfl
@[simp] theorem State.failInit_enc (st : Status) : (State.failInit st s).enc = s.enc := rfl
@[simp] theorem State.failInit_pending (st : Status) : (State.failInit st s).pending = s.pending := rfl
@[simp] theorem State.failInit_script (st : Status) : (State.failInit st s).script = s.script := rfl
@[simp] theorem State.failInit_drawn (st : Status) : (State.failInit st s).drawn = s.drawn := rfl
@[simp] theorem State.failInit_trace (st : Status) : (State.failInit st s).trace = s.trace := rfl

/-! ### `initDone`: `INIT` succeeds -/

@[simp] theorem State.initDone_ctl (v : BitVec 16) : (s.initDone v).ctl = .ready := rfl
@[simp] theorem State.initDone_pstate (v : BitVec 16) : (s.initDone v).pstate = .off := rfl
@[simp] theorem State.initDone_cache (v : BitVec 16) : (s.initDone v).cache = some v := rfl
@[simp] theorem State.initDone_fatalCode (v : BitVec 16) : (s.initDone v).fatalCode = s.fatalCode := rfl
@[simp] theorem State.initDone_wstage (v : BitVec 16) : (s.initDone v).wstage = s.wstage := rfl
@[simp] theorem State.initDone_wDeadline (v : BitVec 16) : (s.initDone v).wDeadline = s.wDeadline := rfl
@[simp] theorem State.initDone_busy (v : BitVec 16) : (s.initDone v).busy = false := rfl
@[simp] theorem State.initDone_cur (v : BitVec 16) : (s.initDone v).cur = s.cur := rfl
@[simp] theorem State.initDone_cmd (v : BitVec 16) : (s.initDone v).cmd = s.cmd := rfl
@[simp] theorem State.initDone_rsp (v : BitVec 16) : (s.initDone v).rsp = some ⟨.ok, dataOf v⟩ := rfl
@[simp] theorem State.initDone_record (v : BitVec 16) : (s.initDone v).record = s.record := rfl
@[simp] theorem State.initDone_phase (v : BitVec 16) : (s.initDone v).phase = s.phase := rfl
@[simp] theorem State.initDone_sLux (v : BitVec 16) : (s.initDone v).sLux = s.sLux := rfl
@[simp] theorem State.initDone_sMv (v : BitVec 16) : (s.initDone v).sMv = s.sMv := rfl
@[simp] theorem State.initDone_tWake (v : BitVec 16) : (s.initDone v).tWake = s.tWake := rfl
@[simp] theorem State.initDone_physReg (v : BitVec 16) : (s.initDone v).physReg = s.physReg := rfl
@[simp] theorem State.initDone_now (v : BitVec 16) : (s.initDone v).now = s.now := rfl
@[simp] theorem State.initDone_params (v : BitVec 16) : (s.initDone v).params = s.params := rfl
@[simp] theorem State.initDone_resetIn (v : BitVec 16) : (s.initDone v).resetIn = s.resetIn := rfl
@[simp] theorem State.initDone_driver (v : BitVec 16) : (s.initDone v).driver = s.driver := rfl
@[simp] theorem State.initDone_enc (v : BitVec 16) : (s.initDone v).enc = s.enc := rfl
@[simp] theorem State.initDone_pending (v : BitVec 16) : (s.initDone v).pending = s.pending := rfl
@[simp] theorem State.initDone_script (v : BitVec 16) : (s.initDone v).script = s.script := rfl
@[simp] theorem State.initDone_drawn (v : BitVec 16) : (s.initDone v).drawn = s.drawn := rfl
@[simp] theorem State.initDone_trace (v : BitVec 16) : (s.initDone v).trace = s.trace := rfl

/-! ### `startWarmUp`: the first settle delay starts -/

@[simp] theorem State.startWarmUp_ctl (v : BitVec 16) : (s.startWarmUp v).ctl = s.ctl := rfl
@[simp] theorem State.startWarmUp_pstate (v : BitVec 16) : (s.startWarmUp v).pstate = .warming := rfl
@[simp] theorem State.startWarmUp_cache (v : BitVec 16) : (s.startWarmUp v).cache = some v := rfl
@[simp] theorem State.startWarmUp_fatalCode (v : BitVec 16) : (s.startWarmUp v).fatalCode = s.fatalCode := rfl
@[simp] theorem State.startWarmUp_wstage (v : BitVec 16) : (s.startWarmUp v).wstage = .w1 := rfl
@[simp] theorem State.startWarmUp_wDeadline (v : BitVec 16) : (s.startWarmUp v).wDeadline = s.now + s.params.tStartUs := rfl
@[simp] theorem State.startWarmUp_busy (v : BitVec 16) : (s.startWarmUp v).busy = s.busy := rfl
@[simp] theorem State.startWarmUp_cur (v : BitVec 16) : (s.startWarmUp v).cur = s.cur := rfl
@[simp] theorem State.startWarmUp_cmd (v : BitVec 16) : (s.startWarmUp v).cmd = s.cmd := rfl
@[simp] theorem State.startWarmUp_rsp (v : BitVec 16) : (s.startWarmUp v).rsp = s.rsp := rfl
@[simp] theorem State.startWarmUp_record (v : BitVec 16) : (s.startWarmUp v).record = s.record := rfl
@[simp] theorem State.startWarmUp_phase (v : BitVec 16) : (s.startWarmUp v).phase = s.phase := rfl
@[simp] theorem State.startWarmUp_sLux (v : BitVec 16) : (s.startWarmUp v).sLux = s.sLux := rfl
@[simp] theorem State.startWarmUp_sMv (v : BitVec 16) : (s.startWarmUp v).sMv = s.sMv := rfl
@[simp] theorem State.startWarmUp_tWake (v : BitVec 16) : (s.startWarmUp v).tWake = s.tWake := rfl
@[simp] theorem State.startWarmUp_physReg (v : BitVec 16) : (s.startWarmUp v).physReg = s.physReg := rfl
@[simp] theorem State.startWarmUp_now (v : BitVec 16) : (s.startWarmUp v).now = s.now := rfl
@[simp] theorem State.startWarmUp_params (v : BitVec 16) : (s.startWarmUp v).params = s.params := rfl
@[simp] theorem State.startWarmUp_resetIn (v : BitVec 16) : (s.startWarmUp v).resetIn = s.resetIn := rfl
@[simp] theorem State.startWarmUp_driver (v : BitVec 16) : (s.startWarmUp v).driver = s.driver := rfl
@[simp] theorem State.startWarmUp_enc (v : BitVec 16) : (s.startWarmUp v).enc = s.enc := rfl
@[simp] theorem State.startWarmUp_pending (v : BitVec 16) : (s.startWarmUp v).pending = s.pending := rfl
@[simp] theorem State.startWarmUp_script (v : BitVec 16) : (s.startWarmUp v).script = s.script := rfl
@[simp] theorem State.startWarmUp_drawn (v : BitVec 16) : (s.startWarmUp v).drawn = s.drawn := rfl
@[simp] theorem State.startWarmUp_trace (v : BitVec 16) : (s.startWarmUp v).trace = s.trace := rfl

/-! ### `startSecondDelay`: the second settle delay starts -/

@[simp] theorem State.startSecondDelay_ctl : s.startSecondDelay.ctl = s.ctl := rfl
@[simp] theorem State.startSecondDelay_pstate : s.startSecondDelay.pstate = s.pstate := rfl
@[simp] theorem State.startSecondDelay_cache : s.startSecondDelay.cache = s.cache := rfl
@[simp] theorem State.startSecondDelay_fatalCode : s.startSecondDelay.fatalCode = s.fatalCode := rfl
@[simp] theorem State.startSecondDelay_wstage : s.startSecondDelay.wstage = .w2 := rfl
@[simp] theorem State.startSecondDelay_wDeadline : s.startSecondDelay.wDeadline = s.now + s.params.tIntUs + Config.tMarginUs := rfl
@[simp] theorem State.startSecondDelay_busy : s.startSecondDelay.busy = s.busy := rfl
@[simp] theorem State.startSecondDelay_cur : s.startSecondDelay.cur = s.cur := rfl
@[simp] theorem State.startSecondDelay_cmd : s.startSecondDelay.cmd = s.cmd := rfl
@[simp] theorem State.startSecondDelay_rsp : s.startSecondDelay.rsp = s.rsp := rfl
@[simp] theorem State.startSecondDelay_record : s.startSecondDelay.record = s.record := rfl
@[simp] theorem State.startSecondDelay_phase : s.startSecondDelay.phase = s.phase := rfl
@[simp] theorem State.startSecondDelay_sLux : s.startSecondDelay.sLux = s.sLux := rfl
@[simp] theorem State.startSecondDelay_sMv : s.startSecondDelay.sMv = s.sMv := rfl
@[simp] theorem State.startSecondDelay_tWake : s.startSecondDelay.tWake = s.tWake := rfl
@[simp] theorem State.startSecondDelay_physReg : s.startSecondDelay.physReg = s.physReg := rfl
@[simp] theorem State.startSecondDelay_now : s.startSecondDelay.now = s.now := rfl
@[simp] theorem State.startSecondDelay_params : s.startSecondDelay.params = s.params := rfl
@[simp] theorem State.startSecondDelay_resetIn : s.startSecondDelay.resetIn = s.resetIn := rfl
@[simp] theorem State.startSecondDelay_driver : s.startSecondDelay.driver = s.driver := rfl
@[simp] theorem State.startSecondDelay_enc : s.startSecondDelay.enc = s.enc := rfl
@[simp] theorem State.startSecondDelay_pending : s.startSecondDelay.pending = s.pending := rfl
@[simp] theorem State.startSecondDelay_script : s.startSecondDelay.script = s.script := rfl
@[simp] theorem State.startSecondDelay_drawn : s.startSecondDelay.drawn = s.drawn := rfl
@[simp] theorem State.startSecondDelay_trace : s.startSecondDelay.trace = s.trace := rfl

/-! ### `endWarmUp`: `ACTIVATE` completes -/

@[simp] theorem State.endWarmUp_ctl : s.endWarmUp.ctl = s.ctl := rfl
@[simp] theorem State.endWarmUp_pstate : s.endWarmUp.pstate = .active := rfl
@[simp] theorem State.endWarmUp_cache : s.endWarmUp.cache = s.cache := rfl
@[simp] theorem State.endWarmUp_fatalCode : s.endWarmUp.fatalCode = s.fatalCode := rfl
@[simp] theorem State.endWarmUp_wstage : s.endWarmUp.wstage = .wNone := rfl
@[simp] theorem State.endWarmUp_wDeadline : s.endWarmUp.wDeadline = s.wDeadline := rfl
@[simp] theorem State.endWarmUp_busy : s.endWarmUp.busy = false := rfl
@[simp] theorem State.endWarmUp_cur : s.endWarmUp.cur = s.cur := rfl
@[simp] theorem State.endWarmUp_cmd : s.endWarmUp.cmd = s.cmd := rfl
@[simp] theorem State.endWarmUp_rsp : s.endWarmUp.rsp = some ⟨.ok, 0⟩ := rfl
@[simp] theorem State.endWarmUp_record : s.endWarmUp.record = s.record := rfl
@[simp] theorem State.endWarmUp_phase : s.endWarmUp.phase = s.phase := rfl
@[simp] theorem State.endWarmUp_sLux : s.endWarmUp.sLux = s.sLux := rfl
@[simp] theorem State.endWarmUp_sMv : s.endWarmUp.sMv = s.sMv := rfl
@[simp] theorem State.endWarmUp_tWake : s.endWarmUp.tWake = s.tWake := rfl
@[simp] theorem State.endWarmUp_physReg : s.endWarmUp.physReg = s.physReg := rfl
@[simp] theorem State.endWarmUp_now : s.endWarmUp.now = s.now := rfl
@[simp] theorem State.endWarmUp_params : s.endWarmUp.params = s.params := rfl
@[simp] theorem State.endWarmUp_resetIn : s.endWarmUp.resetIn = s.resetIn := rfl
@[simp] theorem State.endWarmUp_driver : s.endWarmUp.driver = s.driver := rfl
@[simp] theorem State.endWarmUp_enc : s.endWarmUp.enc = s.enc := rfl
@[simp] theorem State.endWarmUp_pending : s.endWarmUp.pending = s.pending := rfl
@[simp] theorem State.endWarmUp_script : s.endWarmUp.script = s.script := rfl
@[simp] theorem State.endWarmUp_drawn : s.endWarmUp.drawn = s.drawn := rfl
@[simp] theorem State.endWarmUp_trace : s.endWarmUp.trace = s.trace := rfl

/-! ### `powerDown`: `DEACTIVATE` completes -/

@[simp] theorem State.powerDown_ctl (v : BitVec 16) : (s.powerDown v).ctl = s.ctl := rfl
@[simp] theorem State.powerDown_pstate (v : BitVec 16) : (s.powerDown v).pstate = .off := rfl
@[simp] theorem State.powerDown_cache (v : BitVec 16) : (s.powerDown v).cache = some v := rfl
@[simp] theorem State.powerDown_fatalCode (v : BitVec 16) : (s.powerDown v).fatalCode = s.fatalCode := rfl
@[simp] theorem State.powerDown_wstage (v : BitVec 16) : (s.powerDown v).wstage = s.wstage := rfl
@[simp] theorem State.powerDown_wDeadline (v : BitVec 16) : (s.powerDown v).wDeadline = s.wDeadline := rfl
@[simp] theorem State.powerDown_busy (v : BitVec 16) : (s.powerDown v).busy = false := rfl
@[simp] theorem State.powerDown_cur (v : BitVec 16) : (s.powerDown v).cur = s.cur := rfl
@[simp] theorem State.powerDown_cmd (v : BitVec 16) : (s.powerDown v).cmd = s.cmd := rfl
@[simp] theorem State.powerDown_rsp (v : BitVec 16) : (s.powerDown v).rsp = some ⟨.ok, 0⟩ := rfl
@[simp] theorem State.powerDown_record (v : BitVec 16) : (s.powerDown v).record = s.record := rfl
@[simp] theorem State.powerDown_phase (v : BitVec 16) : (s.powerDown v).phase = s.phase := rfl
@[simp] theorem State.powerDown_sLux (v : BitVec 16) : (s.powerDown v).sLux = s.sLux := rfl
@[simp] theorem State.powerDown_sMv (v : BitVec 16) : (s.powerDown v).sMv = s.sMv := rfl
@[simp] theorem State.powerDown_tWake (v : BitVec 16) : (s.powerDown v).tWake = s.tWake := rfl
@[simp] theorem State.powerDown_physReg (v : BitVec 16) : (s.powerDown v).physReg = s.physReg := rfl
@[simp] theorem State.powerDown_now (v : BitVec 16) : (s.powerDown v).now = s.now := rfl
@[simp] theorem State.powerDown_params (v : BitVec 16) : (s.powerDown v).params = s.params := rfl
@[simp] theorem State.powerDown_resetIn (v : BitVec 16) : (s.powerDown v).resetIn = s.resetIn := rfl
@[simp] theorem State.powerDown_driver (v : BitVec 16) : (s.powerDown v).driver = s.driver := rfl
@[simp] theorem State.powerDown_enc (v : BitVec 16) : (s.powerDown v).enc = s.enc := rfl
@[simp] theorem State.powerDown_pending (v : BitVec 16) : (s.powerDown v).pending = s.pending := rfl
@[simp] theorem State.powerDown_script (v : BitVec 16) : (s.powerDown v).script = s.script := rfl
@[simp] theorem State.powerDown_drawn (v : BitVec 16) : (s.powerDown v).drawn = s.drawn := rfl
@[simp] theorem State.powerDown_trace (v : BitVec 16) : (s.powerDown v).trace = s.trace := rfl

/-! ### `issue`: the sequencer offers a command -/

@[simp] theorem State.issue_ctl (i : Instr) : (s.issue i).ctl = s.ctl := rfl
@[simp] theorem State.issue_pstate (i : Instr) : (s.issue i).pstate = s.pstate := rfl
@[simp] theorem State.issue_cache (i : Instr) : (s.issue i).cache = s.cache := rfl
@[simp] theorem State.issue_fatalCode (i : Instr) : (s.issue i).fatalCode = s.fatalCode := rfl
@[simp] theorem State.issue_wstage (i : Instr) : (s.issue i).wstage = s.wstage := rfl
@[simp] theorem State.issue_wDeadline (i : Instr) : (s.issue i).wDeadline = s.wDeadline := rfl
@[simp] theorem State.issue_busy (i : Instr) : (s.issue i).busy = s.busy := rfl
@[simp] theorem State.issue_cur (i : Instr) : (s.issue i).cur = s.cur := rfl
@[simp] theorem State.issue_cmd (i : Instr) : (s.issue i).cmd = some (encode i) := rfl
@[simp] theorem State.issue_rsp (i : Instr) : (s.issue i).rsp = none := rfl
@[simp] theorem State.issue_record (i : Instr) : (s.issue i).record = s.record := rfl
@[simp] theorem State.issue_phase (i : Instr) : (s.issue i).phase = s.phase := rfl
@[simp] theorem State.issue_sLux (i : Instr) : (s.issue i).sLux = s.sLux := rfl
@[simp] theorem State.issue_sMv (i : Instr) : (s.issue i).sMv = s.sMv := rfl
@[simp] theorem State.issue_tWake (i : Instr) : (s.issue i).tWake = s.tWake := rfl
@[simp] theorem State.issue_physReg (i : Instr) : (s.issue i).physReg = s.physReg := rfl
@[simp] theorem State.issue_now (i : Instr) : (s.issue i).now = s.now := rfl
@[simp] theorem State.issue_params (i : Instr) : (s.issue i).params = s.params := rfl
@[simp] theorem State.issue_resetIn (i : Instr) : (s.issue i).resetIn = s.resetIn := rfl
@[simp] theorem State.issue_driver (i : Instr) : (s.issue i).driver = s.driver := rfl
@[simp] theorem State.issue_enc (i : Instr) : (s.issue i).enc = s.enc := rfl
@[simp] theorem State.issue_pending (i : Instr) : (s.issue i).pending = s.pending := rfl
@[simp] theorem State.issue_script (i : Instr) : (s.issue i).script = s.script := rfl
@[simp] theorem State.issue_drawn (i : Instr) : (s.issue i).drawn = s.drawn := rfl
@[simp] theorem State.issue_trace (i : Instr) : (s.issue i).trace = s.trace := rfl

/-! ### `enter`: the sequencer enters a phase -/

@[simp] theorem State.enter_ctl (ph : Phase) : (s.enter ph).ctl = s.ctl := rfl
@[simp] theorem State.enter_pstate (ph : Phase) : (s.enter ph).pstate = s.pstate := rfl
@[simp] theorem State.enter_cache (ph : Phase) : (s.enter ph).cache = s.cache := rfl
@[simp] theorem State.enter_fatalCode (ph : Phase) : (s.enter ph).fatalCode = s.fatalCode := rfl
@[simp] theorem State.enter_wstage (ph : Phase) : (s.enter ph).wstage = s.wstage := rfl
@[simp] theorem State.enter_wDeadline (ph : Phase) : (s.enter ph).wDeadline = s.wDeadline := rfl
@[simp] theorem State.enter_busy (ph : Phase) : (s.enter ph).busy = s.busy := rfl
@[simp] theorem State.enter_cur (ph : Phase) : (s.enter ph).cur = s.cur := rfl
@[simp] theorem State.enter_cmd (ph : Phase) : (s.enter ph).cmd = s.cmd := rfl
@[simp] theorem State.enter_rsp (ph : Phase) : (s.enter ph).rsp = none := rfl
@[simp] theorem State.enter_record (ph : Phase) : (s.enter ph).record = s.record := rfl
@[simp] theorem State.enter_phase (ph : Phase) : (s.enter ph).phase = ph := rfl
@[simp] theorem State.enter_sLux (ph : Phase) : (s.enter ph).sLux = s.sLux := rfl
@[simp] theorem State.enter_sMv (ph : Phase) : (s.enter ph).sMv = s.sMv := rfl
@[simp] theorem State.enter_tWake (ph : Phase) : (s.enter ph).tWake = s.tWake := rfl
@[simp] theorem State.enter_physReg (ph : Phase) : (s.enter ph).physReg = s.physReg := rfl
@[simp] theorem State.enter_now (ph : Phase) : (s.enter ph).now = s.now := rfl
@[simp] theorem State.enter_params (ph : Phase) : (s.enter ph).params = s.params := rfl
@[simp] theorem State.enter_resetIn (ph : Phase) : (s.enter ph).resetIn = s.resetIn := rfl
@[simp] theorem State.enter_driver (ph : Phase) : (s.enter ph).driver = s.driver := rfl
@[simp] theorem State.enter_enc (ph : Phase) : (s.enter ph).enc = s.enc := rfl
@[simp] theorem State.enter_pending (ph : Phase) : (s.enter ph).pending = s.pending := rfl
@[simp] theorem State.enter_script (ph : Phase) : (s.enter ph).script = s.script := rfl
@[simp] theorem State.enter_drawn (ph : Phase) : (s.enter ph).drawn = s.drawn := rfl
@[simp] theorem State.enter_trace (ph : Phase) : (s.enter ph).trace = s.trace := rfl

/-! ### `enterEnc`: the next line of `ENCODING` -/

@[simp] theorem State.enterEnc_ctl (e : EncStep) : (s.enterEnc e).ctl = s.ctl := rfl
@[simp] theorem State.enterEnc_pstate (e : EncStep) : (s.enterEnc e).pstate = s.pstate := rfl
@[simp] theorem State.enterEnc_cache (e : EncStep) : (s.enterEnc e).cache = s.cache := rfl
@[simp] theorem State.enterEnc_fatalCode (e : EncStep) : (s.enterEnc e).fatalCode = s.fatalCode := rfl
@[simp] theorem State.enterEnc_wstage (e : EncStep) : (s.enterEnc e).wstage = s.wstage := rfl
@[simp] theorem State.enterEnc_wDeadline (e : EncStep) : (s.enterEnc e).wDeadline = s.wDeadline := rfl
@[simp] theorem State.enterEnc_busy (e : EncStep) : (s.enterEnc e).busy = s.busy := rfl
@[simp] theorem State.enterEnc_cur (e : EncStep) : (s.enterEnc e).cur = s.cur := rfl
@[simp] theorem State.enterEnc_cmd (e : EncStep) : (s.enterEnc e).cmd = s.cmd := rfl
@[simp] theorem State.enterEnc_rsp (e : EncStep) : (s.enterEnc e).rsp = none := rfl
@[simp] theorem State.enterEnc_record (e : EncStep) : (s.enterEnc e).record = s.record := rfl
@[simp] theorem State.enterEnc_phase (e : EncStep) : (s.enterEnc e).phase = s.phase := rfl
@[simp] theorem State.enterEnc_sLux (e : EncStep) : (s.enterEnc e).sLux = s.sLux := rfl
@[simp] theorem State.enterEnc_sMv (e : EncStep) : (s.enterEnc e).sMv = s.sMv := rfl
@[simp] theorem State.enterEnc_tWake (e : EncStep) : (s.enterEnc e).tWake = s.tWake := rfl
@[simp] theorem State.enterEnc_physReg (e : EncStep) : (s.enterEnc e).physReg = s.physReg := rfl
@[simp] theorem State.enterEnc_now (e : EncStep) : (s.enterEnc e).now = s.now := rfl
@[simp] theorem State.enterEnc_params (e : EncStep) : (s.enterEnc e).params = s.params := rfl
@[simp] theorem State.enterEnc_resetIn (e : EncStep) : (s.enterEnc e).resetIn = s.resetIn := rfl
@[simp] theorem State.enterEnc_driver (e : EncStep) : (s.enterEnc e).driver = s.driver := rfl
@[simp] theorem State.enterEnc_enc (e : EncStep) : (s.enterEnc e).enc = e := rfl
@[simp] theorem State.enterEnc_pending (e : EncStep) : (s.enterEnc e).pending = s.pending := rfl
@[simp] theorem State.enterEnc_script (e : EncStep) : (s.enterEnc e).script = s.script := rfl
@[simp] theorem State.enterEnc_drawn (e : EncStep) : (s.enterEnc e).drawn = s.drawn := rfl
@[simp] theorem State.enterEnc_trace (e : EncStep) : (s.enterEnc e).trace = s.trace := rfl

/-! ### `writeRecord`: the record is written -/

@[simp] theorem State.writeRecord_ctl (r : Data) : (s.writeRecord r).ctl = s.ctl := rfl
@[simp] theorem State.writeRecord_pstate (r : Data) : (s.writeRecord r).pstate = s.pstate := rfl
@[simp] theorem State.writeRecord_cache (r : Data) : (s.writeRecord r).cache = s.cache := rfl
@[simp] theorem State.writeRecord_fatalCode (r : Data) : (s.writeRecord r).fatalCode = s.fatalCode := rfl
@[simp] theorem State.writeRecord_wstage (r : Data) : (s.writeRecord r).wstage = s.wstage := rfl
@[simp] theorem State.writeRecord_wDeadline (r : Data) : (s.writeRecord r).wDeadline = s.wDeadline := rfl
@[simp] theorem State.writeRecord_busy (r : Data) : (s.writeRecord r).busy = s.busy := rfl
@[simp] theorem State.writeRecord_cur (r : Data) : (s.writeRecord r).cur = s.cur := rfl
@[simp] theorem State.writeRecord_cmd (r : Data) : (s.writeRecord r).cmd = s.cmd := rfl
@[simp] theorem State.writeRecord_rsp (r : Data) : (s.writeRecord r).rsp = s.rsp := rfl
@[simp] theorem State.writeRecord_record (r : Data) : (s.writeRecord r).record = Memory.writeFrom s.params s.record 0 (recordBytesOf r) := rfl
@[simp] theorem State.writeRecord_phase (r : Data) : (s.writeRecord r).phase = s.phase := rfl
@[simp] theorem State.writeRecord_sLux (r : Data) : (s.writeRecord r).sLux = s.sLux := rfl
@[simp] theorem State.writeRecord_sMv (r : Data) : (s.writeRecord r).sMv = s.sMv := rfl
@[simp] theorem State.writeRecord_tWake (r : Data) : (s.writeRecord r).tWake = s.tWake := rfl
@[simp] theorem State.writeRecord_physReg (r : Data) : (s.writeRecord r).physReg = s.physReg := rfl
@[simp] theorem State.writeRecord_now (r : Data) : (s.writeRecord r).now = s.now := rfl
@[simp] theorem State.writeRecord_params (r : Data) : (s.writeRecord r).params = s.params := rfl
@[simp] theorem State.writeRecord_resetIn (r : Data) : (s.writeRecord r).resetIn = s.resetIn := rfl
@[simp] theorem State.writeRecord_driver (r : Data) : (s.writeRecord r).driver = s.driver := rfl
@[simp] theorem State.writeRecord_enc (r : Data) : (s.writeRecord r).enc = s.enc := rfl
@[simp] theorem State.writeRecord_pending (r : Data) : (s.writeRecord r).pending = s.pending := rfl
@[simp] theorem State.writeRecord_script (r : Data) : (s.writeRecord r).script = s.script := rfl
@[simp] theorem State.writeRecord_drawn (r : Data) : (s.writeRecord r).drawn = s.drawn := rfl
@[simp] theorem State.writeRecord_trace (r : Data) : (s.writeRecord r).trace = s.trace := rfl

/-! ### `storeRecord`: `ENCODING` ends -/

@[simp] theorem State.storeRecord_ctl (r : Data) : (s.storeRecord r).ctl = s.ctl := rfl
@[simp] theorem State.storeRecord_pstate (r : Data) : (s.storeRecord r).pstate = s.pstate := rfl
@[simp] theorem State.storeRecord_cache (r : Data) : (s.storeRecord r).cache = s.cache := rfl
@[simp] theorem State.storeRecord_fatalCode (r : Data) : (s.storeRecord r).fatalCode = s.fatalCode := rfl
@[simp] theorem State.storeRecord_wstage (r : Data) : (s.storeRecord r).wstage = s.wstage := rfl
@[simp] theorem State.storeRecord_wDeadline (r : Data) : (s.storeRecord r).wDeadline = s.wDeadline := rfl
@[simp] theorem State.storeRecord_busy (r : Data) : (s.storeRecord r).busy = s.busy := rfl
@[simp] theorem State.storeRecord_cur (r : Data) : (s.storeRecord r).cur = s.cur := rfl
@[simp] theorem State.storeRecord_cmd (r : Data) : (s.storeRecord r).cmd = s.cmd := rfl
@[simp] theorem State.storeRecord_rsp (r : Data) : (s.storeRecord r).rsp = none := rfl
@[simp] theorem State.storeRecord_record (r : Data) : (s.storeRecord r).record = Memory.writeFrom s.params s.record 0 (recordBytesOf r) := rfl
@[simp] theorem State.storeRecord_phase (r : Data) : (s.storeRecord r).phase = .publishing := rfl
@[simp] theorem State.storeRecord_sLux (r : Data) : (s.storeRecord r).sLux = s.sLux := rfl
@[simp] theorem State.storeRecord_sMv (r : Data) : (s.storeRecord r).sMv = s.sMv := rfl
@[simp] theorem State.storeRecord_tWake (r : Data) : (s.storeRecord r).tWake = s.tWake := rfl
@[simp] theorem State.storeRecord_physReg (r : Data) : (s.storeRecord r).physReg = s.physReg := rfl
@[simp] theorem State.storeRecord_now (r : Data) : (s.storeRecord r).now = s.now := rfl
@[simp] theorem State.storeRecord_params (r : Data) : (s.storeRecord r).params = s.params := rfl
@[simp] theorem State.storeRecord_resetIn (r : Data) : (s.storeRecord r).resetIn = s.resetIn := rfl
@[simp] theorem State.storeRecord_driver (r : Data) : (s.storeRecord r).driver = s.driver := rfl
@[simp] theorem State.storeRecord_enc (r : Data) : (s.storeRecord r).enc = .lux := rfl
@[simp] theorem State.storeRecord_pending (r : Data) : (s.storeRecord r).pending = s.pending := rfl
@[simp] theorem State.storeRecord_script (r : Data) : (s.storeRecord r).script = s.script := rfl
@[simp] theorem State.storeRecord_drawn (r : Data) : (s.storeRecord r).drawn = s.drawn := rfl
@[simp] theorem State.storeRecord_trace (r : Data) : (s.storeRecord r).trace = s.trace := rfl

/-! ### `goToSleep`: `DEACTIVATING` ends -/

@[simp] theorem State.goToSleep_ctl : s.goToSleep.ctl = s.ctl := rfl
@[simp] theorem State.goToSleep_pstate : s.goToSleep.pstate = s.pstate := rfl
@[simp] theorem State.goToSleep_cache : s.goToSleep.cache = s.cache := rfl
@[simp] theorem State.goToSleep_fatalCode : s.goToSleep.fatalCode = s.fatalCode := rfl
@[simp] theorem State.goToSleep_wstage : s.goToSleep.wstage = s.wstage := rfl
@[simp] theorem State.goToSleep_wDeadline : s.goToSleep.wDeadline = s.wDeadline := rfl
@[simp] theorem State.goToSleep_busy : s.goToSleep.busy = s.busy := rfl
@[simp] theorem State.goToSleep_cur : s.goToSleep.cur = s.cur := rfl
@[simp] theorem State.goToSleep_cmd : s.goToSleep.cmd = s.cmd := rfl
@[simp] theorem State.goToSleep_rsp : s.goToSleep.rsp = none := rfl
@[simp] theorem State.goToSleep_record : s.goToSleep.record = s.record := rfl
@[simp] theorem State.goToSleep_phase : s.goToSleep.phase = .sleeping := rfl
@[simp] theorem State.goToSleep_sLux : s.goToSleep.sLux = s.sLux := rfl
@[simp] theorem State.goToSleep_sMv : s.goToSleep.sMv = s.sMv := rfl
@[simp] theorem State.goToSleep_tWake : s.goToSleep.tWake = s.now + Config.periodUs := rfl
@[simp] theorem State.goToSleep_physReg : s.goToSleep.physReg = s.physReg := rfl
@[simp] theorem State.goToSleep_now : s.goToSleep.now = s.now := rfl
@[simp] theorem State.goToSleep_params : s.goToSleep.params = s.params := rfl
@[simp] theorem State.goToSleep_resetIn : s.goToSleep.resetIn = s.resetIn := rfl
@[simp] theorem State.goToSleep_driver : s.goToSleep.driver = s.driver := rfl
@[simp] theorem State.goToSleep_enc : s.goToSleep.enc = s.enc := rfl
@[simp] theorem State.goToSleep_pending : s.goToSleep.pending = s.pending := rfl
@[simp] theorem State.goToSleep_script : s.goToSleep.script = s.script := rfl
@[simp] theorem State.goToSleep_drawn : s.goToSleep.drawn = s.drawn := rfl
@[simp] theorem State.goToSleep_trace : s.goToSleep.trace = s.trace := rfl

/-! ### `offering`: the host offers a word -/

@[simp] theorem State.offering_ctl (w : Nat) : (s.offering (BitVec.ofNat 72 w)).ctl = s.ctl := rfl
@[simp] theorem State.offering_pstate (w : Nat) : (s.offering (BitVec.ofNat 72 w)).pstate = s.pstate := rfl
@[simp] theorem State.offering_cache (w : Nat) : (s.offering (BitVec.ofNat 72 w)).cache = s.cache := rfl
@[simp] theorem State.offering_fatalCode (w : Nat) : (s.offering (BitVec.ofNat 72 w)).fatalCode = s.fatalCode := rfl
@[simp] theorem State.offering_wstage (w : Nat) : (s.offering (BitVec.ofNat 72 w)).wstage = s.wstage := rfl
@[simp] theorem State.offering_wDeadline (w : Nat) : (s.offering (BitVec.ofNat 72 w)).wDeadline = s.wDeadline := rfl
@[simp] theorem State.offering_busy (w : Nat) : (s.offering (BitVec.ofNat 72 w)).busy = false := rfl
@[simp] theorem State.offering_cur (w : Nat) : (s.offering (BitVec.ofNat 72 w)).cur = s.cur := rfl
@[simp] theorem State.offering_cmd (w : Nat) : (s.offering (BitVec.ofNat 72 w)).cmd = some (BitVec.ofNat 72 w) := rfl
@[simp] theorem State.offering_rsp (w : Nat) : (s.offering (BitVec.ofNat 72 w)).rsp = s.rsp := rfl
@[simp] theorem State.offering_record (w : Nat) : (s.offering (BitVec.ofNat 72 w)).record = s.record := rfl
@[simp] theorem State.offering_phase (w : Nat) : (s.offering (BitVec.ofNat 72 w)).phase = s.phase := rfl
@[simp] theorem State.offering_sLux (w : Nat) : (s.offering (BitVec.ofNat 72 w)).sLux = s.sLux := rfl
@[simp] theorem State.offering_sMv (w : Nat) : (s.offering (BitVec.ofNat 72 w)).sMv = s.sMv := rfl
@[simp] theorem State.offering_tWake (w : Nat) : (s.offering (BitVec.ofNat 72 w)).tWake = s.tWake := rfl
@[simp] theorem State.offering_physReg (w : Nat) : (s.offering (BitVec.ofNat 72 w)).physReg = s.physReg := rfl
@[simp] theorem State.offering_now (w : Nat) : (s.offering (BitVec.ofNat 72 w)).now = s.now := rfl
@[simp] theorem State.offering_params (w : Nat) : (s.offering (BitVec.ofNat 72 w)).params = s.params := rfl
@[simp] theorem State.offering_resetIn (w : Nat) : (s.offering (BitVec.ofNat 72 w)).resetIn = false := rfl
@[simp] theorem State.offering_driver (w : Nat) : (s.offering (BitVec.ofNat 72 w)).driver = .host [] := rfl
@[simp] theorem State.offering_enc (w : Nat) : (s.offering (BitVec.ofNat 72 w)).enc = s.enc := rfl
@[simp] theorem State.offering_pending (w : Nat) : (s.offering (BitVec.ofNat 72 w)).pending = none := rfl
@[simp] theorem State.offering_script (w : Nat) : (s.offering (BitVec.ofNat 72 w)).script = s.script := rfl
@[simp] theorem State.offering_drawn (w : Nat) : (s.offering (BitVec.ofNat 72 w)).drawn = s.drawn := rfl
@[simp] theorem State.offering_trace (w : Nat) : (s.offering (BitVec.ofNat 72 w)).trace = s.trace := rfl

/-! ### `restart`: reset -/

@[simp] theorem State.restart_ctl : s.restart.ctl = .uninit := rfl
@[simp] theorem State.restart_pstate : s.restart.pstate = .off := rfl
@[simp] theorem State.restart_cache : s.restart.cache = none := rfl
@[simp] theorem State.restart_fatalCode : s.restart.fatalCode = 0 := rfl
@[simp] theorem State.restart_wstage : s.restart.wstage = .wNone := rfl
@[simp] theorem State.restart_wDeadline : s.restart.wDeadline = 0 := rfl
@[simp] theorem State.restart_busy : s.restart.busy = false := rfl
@[simp] theorem State.restart_cur : s.restart.cur = 0 := rfl
@[simp] theorem State.restart_cmd : s.restart.cmd = if s.driver = .sequencer then none else s.cmd := rfl
@[simp] theorem State.restart_rsp : s.restart.rsp = none := rfl
@[simp] theorem State.restart_record : s.restart.record = [] := rfl
@[simp] theorem State.restart_phase : s.restart.phase = .boot := rfl
@[simp] theorem State.restart_sLux : s.restart.sLux = none := rfl
@[simp] theorem State.restart_sMv : s.restart.sMv = none := rfl
@[simp] theorem State.restart_tWake : s.restart.tWake = 0 := rfl
@[simp] theorem State.restart_physReg : s.restart.physReg = s.physReg := rfl
@[simp] theorem State.restart_now : s.restart.now = s.now := rfl
@[simp] theorem State.restart_params : s.restart.params = s.params := rfl
@[simp] theorem State.restart_resetIn : s.restart.resetIn = false := rfl
@[simp] theorem State.restart_driver : s.restart.driver = s.driver := rfl
@[simp] theorem State.restart_enc : s.restart.enc = .lux := rfl
@[simp] theorem State.restart_pending : s.restart.pending = none := rfl
@[simp] theorem State.restart_script : s.restart.script = s.script := rfl
@[simp] theorem State.restart_drawn : s.restart.drawn = s.drawn := rfl
@[simp] theorem State.restart_trace : s.restart.trace = s.trace := rfl

end Sys2Proof.Machine
end

