-- ==== Sys2Proof/Laws/Ops.lean ====
section
/-! SUPPORT. One lemma per shared operation: what it can do. -/

namespace Sys2Proof.Machine

variable (s : State)

/-! ## Draws -/

/-- A drawn choice is used up: the next one is the one after it. -/
@[simp] theorem State.drawAt_tick (n : Nat) : s.tick.drawAt n = s.drawAt (n + 1) := by
  simp only [State.drawAt, State.tick_script, State.tick_drawn, List.getElem?_tail]
  rw [show s.drawn + 1 + n = s.drawn + (n + 1) by omega]

@[simp] theorem State.drawAt_call (c : Call) (n : Nat) : (s.call c).drawAt n = s.drawAt (n + 1) :=
  s.drawAt_tick n

@[simp] theorem State.drawAt_accept (w : CmdWord) (n : Nat) : (s.accept w).drawAt n = s.drawAt n := rfl

@[simp] theorem State.drawAt_sensorTakes (v : BitVec 16) (n : Nat) : (s.sensorTakes v).drawAt n = s.drawAt n := rfl

/-- Time passing leaves the record. -/
@[simp] theorem State.recordByte_tick (k : Fin 9) : s.tick.recordByte k = s.recordByte k := rfl

@[simp] theorem State.recordBytes_tick : s.tick.recordBytes = s.recordBytes := rfl

@[simp] theorem State.storedLux_tick : s.tick.storedLux = s.storedLux := rfl

/-- Choices already decided come in their order. -/
theorem State.drawAt_script {s : State} {d : Draw} {n : Nat} (h : s.script[n]? = some d) : s.drawAt n = d := by
  simp [State.drawAt, h]

/-! ## Collaborator calls -/

variable {s}

theorem State.ask_ok {c : Call} {f d : State → State} (h : (s.drawAt 0).reply = .ok) : s.ask c f d = d (s.call c) := by
  simp [State.ask, h]

theorem State.ask_fail {c : Call} {f d : State → State} (h : (s.drawAt 0).reply = .fail) :
    s.ask c f d = f (s.call c) := by
  simp [State.ask, h]

theorem State.ask_never {c : Call} {f d : State → State} (h : (s.drawAt 0).reply = .never) :
    s.ask c f d = s.call c := by
  simp [State.ask, h]

/-- Everything a call can lead to: it is answered well, it is answered badly, or it stays outstanding. -/
theorem State.ask_cases {P : State → Prop} {c : Call} {f d : State → State}
    (ok : (s.drawAt 0).reply = .ok → P (d (s.call c)))
    (fail : (s.drawAt 0).reply = .fail → P (f (s.call c)))
    (never : (s.drawAt 0).reply = .never → P (s.call c)) : P (s.ask c f d) := by
  unfold State.ask
  split
  · exact never ‹_›
  · exact fail ‹_›
  · exact ok ‹_›

/-- A successful write of the power-control register: the sensor holds the value. -/
theorem State.writePower_ok {v : BitVec 16} {f d : State → State} (h : (s.drawAt 0).reply = .ok) :
    s.writePower v f d = d ((s.call (.busWrite s.params.pwrRegAddr v)).sensorTakes v) :=
  State.ask_ok h

theorem State.writePower_fail {v : BitVec 16} {f d : State → State} (h : (s.drawAt 0).reply = .fail) :
    s.writePower v f d = f (s.call (.busWrite s.params.pwrRegAddr v)) :=
  State.ask_fail h

theorem State.writePower_never {v : BitVec 16} {f d : State → State} (h : (s.drawAt 0).reply = .never) :
    s.writePower v f d = s.call (.busWrite s.params.pwrRegAddr v) :=
  State.ask_never h

/-- The two bytes read back make the register's value again (R42, R45). -/
@[simp] theorem busReadValue_reply (v : BitVec 16) : busReadValue (busReadReply v) = v := by
  apply BitVec.eq_of_getLsbD_eq
  intro i hi
  simp only [busReadValue, busReadReply, BitVec.getLsbD_append, BitVec.getLsbD_extractLsb']
  by_cases h : i < 8
  · simp [h]
  · simp [h, show i - 8 < 8 by omega, show 8 + (i - 8) = i by omega]

theorem State.readPower_ok {f : State → State} {d : BitVec 16 → State → State} (h : (s.drawAt 0).reply = .ok) :
    s.readPower f d
      = d (s.call (.busRead s.params.pwrRegAddr)).physReg (s.call (.busRead s.params.pwrRegAddr)) := by
  rw [State.readPower, State.ask_ok h, busReadValue_reply]

/-! ## The data field -/

/-- A value put in the data field is read back from it where it fits. -/
theorem extractLsb'_dataOf {n : Nat} (v : BitVec n) (hn : n ≤ 72) : (dataOf v).extractLsb' 0 n = v := by
  apply BitVec.eq_of_getLsbD_eq
  intro i hi
  simp only [dataOf, BitVec.getLsbD_extractLsb', BitVec.getLsbD_setWidth]
  simp [hi, show i < 72 by omega]

@[simp] theorem dataByte_dataOf (b : Byte) : dataByte (dataOf b) = b := extractLsb'_dataOf b (by decide)

@[simp] theorem dataCentilux_dataOf (c : BitVec 24) : dataCentilux (dataOf c) = c := extractLsb'_dataOf c (by decide)

@[simp] theorem dataMillivolt_dataOf (v : BitVec 32) : dataMillivolt (dataOf v) = v := extractLsb'_dataOf v (by decide)

@[simp] theorem dataMicrolux_dataOf (m : BitVec 64) : dataMicrolux (dataOf m) = m := extractLsb'_dataOf m (by decide)

end Sys2Proof.Machine
end

