-- ==== Sys2Proof/Laws/Step.lean ====
section
/-! SUPPORT. What a step can be: one equation per case of who moves, after the step's time, and the case split itself. -/

namespace Sys2Proof.Machine

variable {s : State}

/-- A step is the transition after the step's time. -/
theorem step_eq : step s = transition s.tick := rfl

theorem step_reset (hr : s.resetIn = true) : step s = .next s.tick.restart := by
  simp [step_eq, transition, hr]

theorem step_busy (hr : s.resetIn = false) (hb : s.busy = true) : step s = .next s.tick.inProgress := by
  simp [step_eq, transition, hr, hb]

theorem step_offered {w : CmdWord} (hr : s.resetIn = false) (hb : s.busy = false) (hf : s.ctl ≠ .fatal)
    (hc : s.cmd = some w) : step s = runWord s.tick w := by
  simp [step_eq, transition, hr, hb, hf, hc]

theorem step_offered_fatal {w : CmdWord} (hr : s.resetIn = false) (hb : s.busy = false) (hf : s.ctl = .fatal)
    (hc : s.cmd = some w) : step s = .fault (.initFailed s.fatalCode) := by
  simp [step_eq, transition, hr, hb, hf, hc]

theorem step_driver (hr : s.resetIn = false) (hb : s.busy = false) (hc : s.cmd = none) : step s = driverStep s.tick := by
  simp [step_eq, transition, hr, hb, hc]

/-- Everything a step can be. -/
theorem step_cases {P : Host.Outcome State Fault Refusal → Prop}
    (reset : s.resetIn = true → P (.next s.tick.restart))
    (busy : s.resetIn = false → s.busy = true → P (.next s.tick.inProgress))
    (offered : ∀ w, s.resetIn = false → s.busy = false → s.ctl ≠ .fatal → s.cmd = some w → P (runWord s.tick w))
    (offered_fatal : ∀ w, s.resetIn = false → s.busy = false → s.ctl = .fatal → s.cmd = some w →
      P (.fault (.initFailed s.fatalCode)))
    (driver : s.resetIn = false → s.busy = false → s.cmd = none → P (driverStep s.tick)) : P (step s) := by
  rcases hr : s.resetIn with _ | _
  · rcases hb : s.busy with _ | _
    · rcases hc : s.cmd with _ | w
      · rw [step_driver hr hb hc]; exact driver hr hb hc
      · by_cases hf : s.ctl = .fatal
        · rw [step_offered_fatal hr hb hf hc]; exact offered_fatal w hr hb hf hc
        · rw [step_offered hr hb hf hc]; exact offered w hr hb hf hc
    · rw [step_busy hr hb]; exact busy hr hb
  · rw [step_reset hr]; exact reset hr

theorem runWord_ok {w : CmdWord} {i : Instr} (h : decode w = .ok i) : runWord s w = exec i (s.accept w) := by
  simp [runWord, h]

theorem runWord_error {w : CmdWord} {e : Illegal} (h : decode w = .error e) :
    runWord s w = .next (s.accept w).rejectIllegal := by
  simp [runWord, h]

/-- The sequencer as driver moves, unless its call is outstanding. -/
theorem driverStep_sequencer (h : s.driver = .sequencer) :
    driverStep s = if s.pending.isSome then .next s else seqStep s := by
  simp [driverStep, h]

theorem driverStep_host {ws : List CmdWord} (h : s.driver = .host ws) : driverStep s = hostStep s ws := by
  simp [driverStep, h]

end Sys2Proof.Machine
end

