-- ==== Sys2Proof/Laws/Exec.lean ====
section
/-! SUPPORT. Everything a command, the sequencer and a step can do to the state, said once: to show a property of the next state, show it of
these. -/

namespace Sys2Proof.Machine

variable {P : State → Prop} {s : State}

theorem State.readyCache_eq_some {c : BitVec 16} (h : s.readyCache = some c) : s.ctl = .ready ∧ s.cache = some c := by
  unfold State.readyCache at h
  split at h
  · exact ⟨‹_›, h⟩
  · cases h

/-- The state after the first `k` calls of `INIT` (R101), in their order. -/
def State.initCalls (s : State) : Nat → State
  | 0 => s
  | 1 => s.call .devReady
  | 2 => (s.call .devReady).call (.cfgSet .integrationTime s.params.itValue)
  | 3 => ((s.call .devReady).call (.cfgSet .integrationTime s.params.itValue)).call (.cfgSet .gain s.params.gainValue)
  | _ => (((s.call .devReady).call (.cfgSet .integrationTime s.params.itValue)).call
      (.cfgSet .gain s.params.gainValue)).call (.busRead s.params.pwrRegAddr)

@[simp] theorem State.initCalls_ctl (k : Nat) : (s.initCalls k).ctl = s.ctl := by
  unfold State.initCalls; split <;> simp only [State.call_ctl]

@[simp] theorem State.initCalls_pstate (k : Nat) : (s.initCalls k).pstate = s.pstate := by
  unfold State.initCalls; split <;> simp only [State.call_pstate]

@[simp] theorem State.initCalls_cache (k : Nat) : (s.initCalls k).cache = s.cache := by
  unfold State.initCalls; split <;> simp only [State.call_cache]

@[simp] theorem State.initCalls_fatalCode (k : Nat) : (s.initCalls k).fatalCode = s.fatalCode := by
  unfold State.initCalls; split <;> simp only [State.call_fatalCode]

@[simp] theorem State.initCalls_wstage (k : Nat) : (s.initCalls k).wstage = s.wstage := by
  unfold State.initCalls; split <;> simp only [State.call_wstage]

@[simp] theorem State.initCalls_wDeadline (k : Nat) : (s.initCalls k).wDeadline = s.wDeadline := by
  unfold State.initCalls; split <;> simp only [State.call_wDeadline]

@[simp] theorem State.initCalls_busy (k : Nat) : (s.initCalls k).busy = s.busy := by
  unfold State.initCalls; split <;> simp only [State.call_busy]

@[simp] theorem State.initCalls_cur (k : Nat) : (s.initCalls k).cur = s.cur := by
  unfold State.initCalls; split <;> simp only [State.call_cur]

@[simp] theorem State.initCalls_cmd (k : Nat) : (s.initCalls k).cmd = s.cmd := by
  unfold State.initCalls; split <;> simp only [State.call_cmd]

@[simp] theorem State.initCalls_rsp (k : Nat) : (s.initCalls k).rsp = s.rsp := by
  unfold State.initCalls; split <;> simp only [State.call_rsp]

@[simp] theorem State.initCalls_record (k : Nat) : (s.initCalls k).record = s.record := by
  unfold State.initCalls; split <;> simp only [State.call_record]

@[simp] theorem State.initCalls_phase (k : Nat) : (s.initCalls k).phase = s.phase := by
  unfold State.initCalls; split <;> simp only [State.call_phase]

@[simp] theorem State.initCalls_sLux (k : Nat) : (s.initCalls k).sLux = s.sLux := by
  unfold State.initCalls; split <;> simp only [State.call_sLux]

@[simp] theorem State.initCalls_sMv (k : Nat) : (s.initCalls k).sMv = s.sMv := by
  unfold State.initCalls; split <;> simp only [State.call_sMv]

@[simp] theorem State.initCalls_tWake (k : Nat) : (s.initCalls k).tWake = s.tWake := by
  unfold State.initCalls; split <;> simp only [State.call_tWake]

@[simp] theorem State.initCalls_params (k : Nat) : (s.initCalls k).params = s.params := by
  unfold State.initCalls; split <;> simp only [State.call_params]

@[simp] theorem State.initCalls_resetIn (k : Nat) : (s.initCalls k).resetIn = s.resetIn := by
  unfold State.initCalls; split <;> simp only [State.call_resetIn]

@[simp] theorem State.initCalls_driver (k : Nat) : (s.initCalls k).driver = s.driver := by
  unfold State.initCalls; split <;> simp only [State.call_driver]

@[simp] theorem State.initCalls_enc (k : Nat) : (s.initCalls k).enc = s.enc := by
  unfold State.initCalls; split <;> simp only [State.call_enc]

/-- Time does not run backwards over the calls. -/
theorem State.now_le_initCalls (k : Nat) : s.now ≤ (s.initCalls k).now := by
  unfold State.initCalls; split <;> simp <;> omega

/-- What `INIT` can leave. -/
theorem initBody_ind
    (hang : ∀ k, 1 ≤ k → k ≤ 4 → (s.drawAt (k - 1)).reply = .never → P (s.initCalls k))
    (notReady : (s.drawAt 0).reply = .fail → P (State.failInit .notReady (s.initCalls 1)))
    (badConfig : ∀ k, 2 ≤ k → k ≤ 4 → (∀ n < k - 1, (s.drawAt n).reply = .ok) → (s.drawAt (k - 1)).reply = .fail →
      P (State.failInit .configFailed (s.initCalls k)))
    (done : (∀ n < 4, (s.drawAt n).reply = .ok) → P (State.initDone (s.initCalls 4).physReg (s.initCalls 4))) :
    P s.initBody := by
  unfold State.initBody State.readPower
  refine State.ask_cases (fun h0 => ?_) notReady (hang 1 (by omega) (by omega))
  refine State.ask_cases (fun h1 => ?_) (fun h1 => badConfig 2 (by omega) (by omega) ?_ ?_)
    (fun h1 => hang 2 (by omega) (by omega) ?_)
  · refine State.ask_cases (fun h2 => ?_) (fun h2 => badConfig 3 (by omega) (by omega) ?_ ?_)
      (fun h2 => hang 3 (by omega) (by omega) ?_)
    · refine State.ask_cases (fun h3 => ?_) (fun h3 => badConfig 4 (by omega) (by omega) ?_ ?_)
        (fun h3 => hang 4 (by omega) (by omega) ?_)
      · rw [busReadValue_reply]
        refine done fun n hn => ?_
        simp only [State.drawAt_call] at h1 h2 h3
        match n, hn with
        | 0, _ => exact h0
        | 1, _ => exact h1
        | 2, _ => exact h2
        | 3, _ => exact h3
      · intro n hn
        simp only [State.drawAt_call] at h1 h2 h3
        match n, hn with
        | 0, _ => exact h0
        | 1, _ => exact h1
        | 2, _ => exact h2
      · simpa using h3
      · simpa using h3
    · intro n hn
      simp only [State.drawAt_call] at h1
      match n, hn with
      | 0, _ => exact h0
      | 1, _ => exact h1
    · simpa using h2
    · simpa using h2
  · intro n hn
    match n, hn with
    | 0, _ => exact h0
  · simpa using h1
  · simpa using h1

/-- What any command can leave. -/
theorem exec_ind {i : Instr}
    (answer : ∀ d, exec i s = .next (s.respond .ok d) → P (s.respond .ok d))
    (refuse : ∀ st, st = .contractViolation ∨ st = .notActive → exec i s = .next (s.reject st) → P (s.reject st))
    (init : i = .init → s.ctl = .uninit → P s.initBody)
    (power : ∀ c v (done : State → State), s.ctl = .ready → s.cache = some c →
      (i = .activate ∧ v = c &&& ~~~s.params.sdMask ∧ done = State.startWarmUp v) ∨
        (i = .deactivate ∧ v = c ||| s.params.sdMask ∧ done = State.powerDown v) →
      P (s.writePower v (fun t => t.reject .writeFailed) done))
    (sample : i = .sampleLux → s.ctl = .ready → s.pstate = .active → P s.sampleBody)
    (convert : i = .readMv → P (s.ask (adcCall s.params) (fun t => t.reject .adcFailed)
      fun t => t.respond .ok (dataOf (rawToMv t.params (s.drawAt 0).raw)))) :
    ∀ t, exec i s = .next t → P t := by
  cases i with
  | init =>
    rintro t ⟨⟩
    split
    · exact init rfl ‹_›
    · next h => exact refuse _ (.inl rfl) (by simp only [exec, execInit, if_neg h])
  | activate =>
    rintro t ⟨⟩
    split
    · next h => exact refuse _ (.inl rfl) (by simp only [exec, execActivate, h])
    · next c h =>
      exact power c _ _ (State.readyCache_eq_some h).1 (State.readyCache_eq_some h).2 (.inl ⟨rfl, rfl, rfl⟩)
  | deactivate =>
    rintro t ⟨⟩
    split
    · next h => exact refuse _ (.inl rfl) (by simp only [exec, execDeactivate, h])
    · next c h =>
      exact power c _ _ (State.readyCache_eq_some h).1 (State.readyCache_eq_some h).2 (.inr ⟨rfl, rfl, rfl⟩)
  | sampleLux =>
    rintro t ⟨⟩
    split
    · split
      · exact sample rfl ‹_› ‹_›
      · next hc hp => exact refuse _ (.inr rfl) (by simp only [exec, execSampleLux, if_pos hc, if_neg hp])
    · next hc => exact refuse _ (.inl rfl) (by simp only [exec, execSampleLux, if_neg hc])
  | encLux m => rintro t ⟨⟩; exact answer _ rfl
  | encBatt u p =>
    rintro t ⟨⟩
    split
    · next h => exact refuse _ (.inl rfl) (by simp only [exec, execEncBatt, if_pos h])
    · next h => exact answer _ (by simp only [exec, execEncBatt, if_neg h])
  | buildRec l b => rintro t ⟨⟩; exact answer _ rfl
  | readMv => rintro t ⟨⟩; exact convert rfl
  | estPct v => rintro t ⟨⟩; exact answer _ rfl

/-- Every command answers a next state. -/
theorem exec_next (i : Instr) (s : State) : ∃ t, exec i s = .next t := by
  cases i <;> exact ⟨_, rfl⟩

@[simp] theorem State.tick_sequencerTurn : s.tick.sequencerTurn ↔ s.sequencerTurn := Iff.rfl

/-- What a step can leave: each case starts from the state after the step's time. -/
theorem step_ind
    (reset : s.resetIn = true → P s.tick.restart)
    (busy : s.resetIn = false → s.busy = true → P s.tick.inProgress)
    (illegal : ∀ w e, s.resetIn = false → s.busy = false → s.ctl ≠ .fatal → s.cmd = some w → decode w = .error e →
      P (s.tick.accept w).rejectIllegal)
    (command : ∀ w i t, s.resetIn = false → s.busy = false → s.ctl ≠ .fatal → s.cmd = some w → decode w = .ok i →
      exec i (s.tick.accept w) = .next t → P t)
    (waiting : s.resetIn = false → s.busy = false → s.cmd = none → P s.tick)
    (hostOffers : ∀ w ws, s.resetIn = false → s.busy = false → s.cmd = none → s.driver = .host (w :: ws) →
      P { s.tick with cmd := some w, driver := .host ws })
    (sequencer : ∀ t, s.sequencerTurn → seqStep s.tick = .next t → P t) :
    ∀ t, step s = .next t → P t := by
  refine step_cases (P := fun o => ∀ t, o = .next t → P t) ?_ ?_ ?_ ?_ ?_
  · rintro h t ⟨⟩; exact reset h
  · rintro hr hb t ⟨⟩; exact busy hr hb
  · intro w hr hb hf hc t ht
    rcases hd : decode w with e | i
    · rw [runWord_error hd] at ht; cases ht; exact illegal w e hr hb hf hc hd
    · rw [runWord_ok hd] at ht; exact command w i t hr hb hf hc hd ht
  · rintro _ _ _ _ _ t ⟨⟩
  · intro hr hb hc t ht
    rcases hd : s.driver with _ | ws
    · rw [driverStep_sequencer (s := s.tick) hd] at ht
      split at ht
      · cases ht; exact waiting hr hb hc
      · next hp => exact sequencer t ⟨hr, hb, hc, by simpa using hp, hd⟩ ht
    · rw [driverStep_host (s := s.tick) hd] at ht
      unfold hostStep at ht
      split at ht
      · cases ht
      · cases ws with
        | nil => cases ht; exact waiting hr hb hc
        | cons w ws => cases ht; exact hostOffers w ws hr hb hc hd

end Sys2Proof.Machine
end

