-- ==== Sys2Proof/Laws/Memory.lean ====
section
/-! SUPPORT. The record buffer: reading after writing, the canonical form, and the nine bytes of a record written whole. -/

namespace Sys2Proof.Machine

variable (p : Params)

@[simp] theorem Memory.read_nil (a : Nat) : Memory.read p [] a = recordReset p a := rfl

@[simp] theorem Memory.read_cons (k : Nat) (c : Byte) (m : Memory) (a : Nat) :
    Memory.read p ((k, c) :: m) a = if k = a then c else Memory.read p m a := rfl

/-- Below the first listed offset, a canonical memory reads as its reset contents. -/
theorem Memory.read_below {m : Memory} {a : Nat} (h : ∀ c ∈ m, a < c.1) : Memory.read p m a = recordReset p a := by
  induction m with
  | nil => rfl
  | cons c m ih =>
    obtain ⟨k, b⟩ := c
    have hk : a < k := h (k, b) (by simp)
    rw [Memory.read_cons, if_neg (by omega), ih fun c hc => h c (by simp [hc])]

theorem Memory.read_put {m : Memory} {a : Nat} (b : Byte) (h : ∀ c ∈ m, a < c.1) (x : Nat) :
    Memory.read p (Memory.put p a b m) x = if a = x then b else Memory.read p m x := by
  unfold Memory.put
  split
  · split
    · subst x; rw [Memory.read_below p h]; exact Eq.symm ‹_›
    · rfl
  · rfl

/-- Offsets strictly rising. -/
abbrev Memory.rising (m : Memory) : Prop := m.Pairwise fun x y => x.1 < y.1

/-- A read after a write: the byte written at its offset, the old byte elsewhere. -/
theorem Memory.read_write {m : Memory} (hm : Memory.rising m) (a : Nat) (b : Byte) (x : Nat) :
    Memory.read p (Memory.write p m a b) x = if a = x then b else Memory.read p m x := by
  induction m with
  | nil => exact Memory.read_put p b (by simp) x
  | cons c m ih =>
    obtain ⟨k, c⟩ := c
    obtain ⟨hk, hm'⟩ := List.pairwise_cons.1 hm
    unfold Memory.write
    split
    next hlt =>
      refine Memory.read_put p b ?_ x
      intro d hd
      rcases List.mem_cons.1 hd with rfl | hd
      · exact hlt
      · exact Nat.lt_trans hlt (hk d hd)
    next hge =>
      split
      next heq =>
        subst heq
        rw [Memory.read_put p b hk x, Memory.read_cons]
        split <;> rfl
      next hne =>
        rw [Memory.read_cons, Memory.read_cons, ih hm']
        split
        · rw [if_neg (by omega)]
        · rfl

/-- A cell of a memory after a write is the written one or one of before. -/
theorem Memory.mem_write {m : Memory} {a : Nat} {b : Byte} {c : Host.Cell} (h : c ∈ Memory.write p m a b) :
    (c = (a, b) ∧ b ≠ recordReset p a) ∨ c ∈ m := by
  induction m with
  | nil =>
    unfold Memory.write Memory.put at h
    split at h
    · exact absurd h (by simp)
    · exact .inl ⟨by simpa using h, ‹_›⟩
  | cons d m ih =>
    obtain ⟨k, e⟩ := d
    unfold Memory.write at h
    split at h
    · unfold Memory.put at h
      split at h
      · exact .inr h
      · rcases List.mem_cons.1 h with h | h
        · exact .inl ⟨h, ‹_›⟩
        · exact .inr h
    · split at h
      · unfold Memory.put at h
        split at h
        · exact .inr (List.mem_cons_of_mem _ h)
        · rcases List.mem_cons.1 h with h | h
          · exact .inl ⟨h, ‹_›⟩
          · exact .inr (List.mem_cons_of_mem _ h)
      · rcases List.mem_cons.1 h with h | h
        · exact .inr (by simp [h])
        · exact (ih h).imp id (List.mem_cons_of_mem _)

theorem Memory.rising_put {m : Memory} (hm : Memory.rising m) {a : Nat} (h : ∀ c ∈ m, a < c.1) (b : Byte) :
    Memory.rising (Memory.put p a b m) := by
  unfold Memory.put
  split
  · exact hm
  · exact List.pairwise_cons.2 ⟨h, hm⟩

theorem Memory.rising_write {m : Memory} (hm : Memory.rising m) (a : Nat) (b : Byte) :
    Memory.rising (Memory.write p m a b) := by
  induction m with
  | nil => exact Memory.rising_put p hm (by simp) b
  | cons c m ih =>
    obtain ⟨k, c⟩ := c
    obtain ⟨hk, hm'⟩ := List.pairwise_cons.1 hm
    unfold Memory.write
    split
    next hlt =>
      refine Memory.rising_put p hm ?_ b
      intro d hd
      rcases List.mem_cons.1 hd with rfl | hd
      · exact hlt
      · exact Nat.lt_trans hlt (hk d hd)
    next hge =>
      split
      next heq => subst heq; exact Memory.rising_put p hm' hk b
      next hne =>
        refine List.pairwise_cons.2 ⟨fun d hd => ?_, ih hm'⟩
        rcases Memory.mem_write p hd with ⟨rfl, -⟩ | hd
        · show k < a; omega
        · exact hk d hd

theorem Memory.wf_iff {m : Memory} :
    Memory.wf p m = true ↔ Memory.rising m ∧ ∀ c ∈ m, c.1 < 9 ∧ c.2 ≠ recordReset p c.1 := by
  simp only [Memory.wf, Bool.and_eq_true, decide_eq_true_eq, List.all_eq_true]
  exact Iff.rfl

theorem Memory.wf_nil : Memory.wf p [] = true := rfl

/-- Every write keeps the canonical form. -/
theorem Memory.wf_write {m : Memory} (hm : Memory.wf p m = true) {a : Nat} (ha : a < 9) (b : Byte) :
    Memory.wf p (Memory.write p m a b) = true := by
  obtain ⟨hr, hc⟩ := (Memory.wf_iff p).1 hm
  refine (Memory.wf_iff p).2 ⟨Memory.rising_write p hr a b, fun c h => ?_⟩
  rcases Memory.mem_write p h with ⟨rfl, hb⟩ | h
  · exact ⟨ha, hb⟩
  · exact hc c h

theorem Memory.wf_writeFrom {m : Memory} (hm : Memory.wf p m = true) (bs : List Byte) (a : Nat) (ha : a + bs.length ≤ 9) :
    Memory.wf p (Memory.writeFrom p m a bs) = true := by
  induction bs generalizing m a with
  | nil => exact hm
  | cons b bs ih =>
    rw [List.length_cons] at ha
    exact ih (Memory.wf_write p hm (by omega) b) (a + 1) (by omega)

/-- Reading after bytes were written from offset `a` on. -/
theorem Memory.read_writeFrom {m : Memory} (hm : Memory.rising m) (bs : List Byte) (a x : Nat) :
    Memory.read p (Memory.writeFrom p m a bs) x
      = if h : a ≤ x ∧ x < a + bs.length then bs[x - a]'(by omega) else Memory.read p m x := by
  induction bs generalizing m a with
  | nil =>
    rw [dif_neg (by simp only [List.length_nil]; omega)]
    rfl
  | cons b bs ih =>
    rw [Memory.writeFrom, ih (Memory.rising_write p hm a b), Memory.read_write p hm]
    by_cases hx : a = x
    · subst hx; simp
    · by_cases h : a + 1 ≤ x ∧ x < a + 1 + bs.length
      · rw [dif_pos h, dif_pos (by simp only [List.length_cons]; omega)]
        simp only [show x - a = (x - (a + 1)) + 1 by omega, List.getElem_cons_succ]
      · rw [dif_neg h, if_neg hx, dif_neg (by simp only [List.length_cons]; omega)]

/-- A record has nine bytes. -/
theorem recordBytesOf_length (r : Data) : (recordBytesOf r).length = 9 := by
  simp [recordBytesOf, Config.recLen]

/-- The record written whole reads as the bytes of the value written (R50, R67). -/
theorem State.recordByte_writeRecord {s : State} (hm : Memory.wf s.params s.record = true) (r : Data) (i : Fin 9) :
    (s.writeRecord r).recordByte i = recordByteOf r i := by
  have hr := ((Memory.wf_iff s.params).1 hm).1
  show Memory.read s.params (Memory.writeFrom s.params s.record 0 (recordBytesOf r)) i = _
  have hi := i.isLt
  rw [Memory.read_writeFrom s.params hr, dif_pos ⟨by omega, by rw [recordBytesOf_length]; omega⟩]
  simp [recordBytesOf]

/-- Writing the record keeps the canonical form. -/
theorem State.wf_writeRecord {s : State} (hm : Memory.wf s.params s.record = true) (r : Data) :
    Memory.wf s.params (s.writeRecord r).record = true :=
  Memory.wf_writeFrom s.params hm _ 0 (by rw [recordBytesOf_length])

end Sys2Proof.Machine
end

