-- ==== Sys2Proof/Laws/PerInstr.lean ====
section
/-! SUPPORT. Said of every command, one lemma per constructor: its word selects its own row of the opcode map (R64). -/

namespace Sys2Proof.Laws.OpcodeRow

/-- The mnemonic of a command, as the opcode map has it. -/
def mnemonic : Instr → String
  | .init => "INIT"
  | .activate => "ACTIVATE"
  | .deactivate => "DEACTIVATE"
  | .sampleLux => "SAMPLE_LUX"
  | .encLux _ => "ENC_LUX"
  | .encBatt _ _ => "ENC_BATT"
  | .buildRec _ _ => "BUILD_REC"
  | .readMv => "READ_MV"
  | .estPct _ => "EST_PCT"

/-- The command's word selects the row of the map that carries its mnemonic. -/
def Statement (i : Instr) : Prop := ∃ r ∈ opcodeMap, r.mnemonic = mnemonic i ∧ r.selects (encode i) = true

/-- Two words are masked field by field (R61). -/
theorem cmdWord_and (op mo : BitVec 8) (x mx : Operand) :
    cmdWord op x &&& cmdWord mo mx = cmdWord (op &&& mo) (x &&& mx) := by
  apply BitVec.eq_of_getLsbD_eq
  intro i hi
  simp only [cmdWord, BitVec.getLsbD_and, BitVec.getLsbD_append]
  split <;> rfl

/-- A word selects a row where its opcode is the row's and its operand is zero under the row's mask. -/
theorem selects_cmdWord {m : String} {op : BitVec 8} {x mx : Operand} (hx : x &&& mx = 0) :
    Row.selects ⟨m, cmdWord op 0, cmdWord 0xFF mx⟩ (cmdWord op x) = true := by
  have h : op &&& 0xFF#8 = op := by
    rw [show (0xFF#8) = BitVec.allOnes 8 from rfl, BitVec.and_allOnes]
  simp [Row.selects, cmdWord_and, hx, h]

theorem init : Statement .init := ⟨_, .head _, rfl, by decide⟩

theorem activate : Statement .activate := ⟨_, .tail _ (.head _), rfl, by decide⟩

theorem deactivate : Statement .deactivate := ⟨_, .tail _ (.tail _ (.head _)), rfl, by decide⟩

theorem sampleLux : Statement .sampleLux := ⟨_, .tail _ (.tail _ (.tail _ (.head _))), rfl, by decide⟩

theorem encLux (microlux : BitVec 64) : Statement (.encLux microlux) :=
  ⟨⟨"ENC_LUX", cmdWord 0x10 0, cmdWord 0xFF 0⟩, by decide, rfl, selects_cmdWord (by simp)⟩

theorem encBatt (unknown : Bool) (percent : BitVec 8) : Statement (.encBatt unknown percent) := by
  refine ⟨⟨"ENC_BATT", cmdWord 0x11 0, cmdWord 0xFF (BitVec.allOnes 55 ++ 0#9)⟩, by decide, rfl, selects_cmdWord ?_⟩
  apply BitVec.eq_of_getLsbD_eq
  intro i hi
  simp only [BitVec.getLsbD_and, BitVec.getLsbD_append, BitVec.getLsbD_zero]
  rcases Nat.lt_or_ge i 9 with h | h
  · simp [h]
  · simp [show ¬ i < 8 by omega, show ¬ i - 8 < 1 by omega]

theorem buildRec (lux : BitVec 24) (batt : BitVec 8) : Statement (.buildRec lux batt) := by
  refine ⟨⟨"BUILD_REC", cmdWord 0x12 0, cmdWord 0xFF (BitVec.allOnes 32 ++ 0#32)⟩, by decide, rfl, selects_cmdWord ?_⟩
  apply BitVec.eq_of_getLsbD_eq
  intro i hi
  simp only [BitVec.getLsbD_and, BitVec.getLsbD_append, BitVec.getLsbD_zero]
  rcases Nat.lt_or_ge i 32 with h | h
  · simp [h]
  · simp [show ¬ i < 24 by omega, show ¬ i - 24 < 8 by omega]

theorem readMv : Statement .readMv :=
  ⟨_, .tail _ (.tail _ (.tail _ (.tail _ (.tail _ (.tail _ (.tail _ (.head _))))))), rfl, by decide⟩

theorem estPct (mv : BitVec 32) : Statement (.estPct mv) := by
  refine ⟨⟨"EST_PCT", cmdWord 0x21 0, cmdWord 0xFF (BitVec.allOnes 32 ++ 0#32)⟩, by decide, rfl, selects_cmdWord ?_⟩
  apply BitVec.eq_of_getLsbD_eq
  intro i hi
  simp only [BitVec.getLsbD_and, BitVec.getLsbD_append, BitVec.getLsbD_zero]
  rcases Nat.lt_or_ge i 32 with h | h
  · simp [h]
  · simp [show ¬ i < 32 by omega]

end Sys2Proof.Laws.OpcodeRow
end

