-- ==== Sys2Proof/Laws/Sequencer.lean ====
section
/-! SUPPORT. Everything a step of the sequencer can do (R150-R165), said once. -/

namespace Sys2Proof.Machine

variable {P : State → Prop} {s : State}

/-- What a move of the sequencer can leave. -/
theorem seqStep_ind
    (issue : ∀ i, s.request = some i → s.rsp = none → P (s.issue i))
    (boot : ∀ r ph, s.phase = .boot → s.rsp = some r →
      (r.status = .ok ∧ ph = .idle) ∨ ((r.status = .notReady ∨ r.status = .configFailed) ∧ ph = .halted) → P (s.enter ph))
    (idle : s.phase = .idle → P (State.enter { s with sLux := none, sMv := none } .activating))
    (activating : ∀ r ph, s.phase = .activating → s.rsp = some r →
      (r.status = .ok ∧ ph = .samplingLux) ∨ (r.status = .writeFailed ∧ ph = .samplingBattery) → P (s.enter ph))
    (samplingLux : ∀ x, s.phase = .samplingLux → P (State.enter { s with sLux := x } .samplingBattery))
    (samplingBattery : ∀ x, s.phase = .samplingBattery →
      P (State.enter { s with sMv := x, enc := .lux } .encoding))
    (keepLux : s.phase = .encoding → s.enc = .lux → s.sLux = none → P (s.enterEnc (.percent s.storedLux)))
    (luxBytes : ∀ m r, s.phase = .encoding → s.enc = .lux → s.sLux = some m → s.rsp = some r → r.status = .ok →
      P (s.enterEnc (.percent (dataCentilux r.data))))
    (noPercent : ∀ l, s.phase = .encoding → s.enc = .percent l → s.sMv = none → P (s.enterEnc (.battery l none)))
    (percent : ∀ l v r, s.phase = .encoding → s.enc = .percent l → s.sMv = some v → s.rsp = some r → r.status = .ok →
      P (s.enterEnc (.battery l (some (dataByte r.data)))))
    (battery : ∀ l p r, s.phase = .encoding → s.enc = .battery l p → s.rsp = some r → r.status = .ok →
      P (s.enterEnc (.build l (dataByte r.data))))
    (store : ∀ l b r, s.phase = .encoding → s.enc = .build l b → s.rsp = some r → r.status = .ok →
      P (s.storeRecord r.data))
    (publish : s.phase = .publishing →
      P (s.call (.publish s.recordBytes)) ∧ P (State.enter (s.call (.publish s.recordBytes)) .deactivating))
    (sleep : ∀ r, s.phase = .deactivating → s.rsp = some r → r.status = .ok ∨ r.status = .writeFailed → P s.goToSleep)
    (sleeping : s.phase = .sleeping → (s.tWake ≤ s.now → P (s.enter .idle)) ∧ (¬ s.tWake ≤ s.now → P s)) :
    ∀ t, seqStep s = .next t → P t := by
  intro t h
  unfold seqStep at h
  split at h
  next hph =>
    unfold seqBoot at h
    split at h
    · next hr => cases h; exact issue _ (by simp [State.request, hph]) hr
    · next r hr =>
      split at h <;> cases h
      · next hs => exact boot r _ hph hr (.inl ⟨hs, rfl⟩)
      · next hs => exact boot r _ hph hr (.inr ⟨.inl hs, rfl⟩)
      · next hs => exact boot r _ hph hr (.inr ⟨.inr hs, rfl⟩)
  next hph => cases h; exact idle hph
  next hph =>
    unfold seqActivating at h
    split at h
    · next hr => cases h; exact issue _ (by simp [State.request, hph]) hr
    · next r hr =>
      split at h <;> cases h
      · next hs => exact activating r _ hph hr (.inl ⟨hs, rfl⟩)
      · next hs => exact activating r _ hph hr (.inr ⟨hs, rfl⟩)
  next hph =>
    unfold seqSamplingLux at h
    split at h
    · next hr => cases h; exact issue _ (by simp [State.request, hph]) hr
    · cases h; exact samplingLux _ hph
  next hph =>
    unfold seqSamplingBattery at h
    split at h
    · next hr => cases h; exact issue _ (by simp [State.request, hph]) hr
    · cases h; exact samplingBattery _ hph
  next hph =>
    unfold seqEncoding seqExchange at h
    split at h
    next he =>
      split at h
      next m hm =>
        split at h
        · next hr => cases h; exact issue _ (by simp [State.request, hph, he, hm]) hr
        · next r hr =>
          split at h <;> cases h
          exact luxBytes m r hph he hm hr ‹_›
      next hm => cases h; exact keepLux hph he hm
    next l he =>
      split at h
      next v hv =>
        split at h
        · next hr => cases h; exact issue _ (by simp [State.request, hph, he, hv]) hr
        · next r hr =>
          split at h <;> cases h
          exact percent l v r hph he hv hr ‹_›
      next hv => cases h; exact noPercent l hph he hv
    next l p he =>
      split at h
      · next hr => cases h; exact issue _ (by simp [State.request, hph, he]) hr
      · next r hr =>
        split at h <;> cases h
        exact battery l _ r hph he hr ‹_›
    next l he =>
      split at h
      · next hr => cases h; exact issue _ (by simp [State.request, hph, he]) hr
      · next r hr =>
        split at h <;> cases h
        exact battery l _ r hph he hr ‹_›
    next l b he =>
      split at h
      · next hr => cases h; exact issue _ (by simp [State.request, hph, he]) hr
      · next r hr =>
        split at h <;> cases h
        exact store l b r hph he hr ‹_›
  next hph =>
    cases h
    exact State.ask_cases (fun _ => (publish hph).2) (fun _ => (publish hph).2) (fun _ => (publish hph).1)
  next hph =>
    unfold seqDeactivating at h
    split at h
    · next hr => cases h; exact issue _ (by simp [State.request, hph]) hr
    · next r hr =>
      split at h <;> cases h
      · next hs => exact sleep r hph hr (.inl hs)
      · next hs => exact sleep r hph hr (.inr hs)
  next hph =>
    cases h
    split
    · next hw => exact (sleeping hph).1 hw
    · next hw => exact (sleeping hph).2 hw
  next => cases h

end Sys2Proof.Machine
end

