-- ==== Sys2Proof/Machine/Text.lean ====
section
/-! DEFINITION. The textual form of commands and responses (R70): an assembler of one line, and the text of a response. Nothing the machine does
depends on it. -/

namespace Sys2Proof.Machine

/-! ## Characters -/

/-- A space or a tab. -/
def isBlank (c : Char) : Bool := c == ' ' || c == '\t'

/-- Without blanks at either end. -/
def trimText (t : List Char) : List Char := ((t.dropWhile isBlank).reverse.dropWhile isBlank).reverse

/-- What stands before the comment, if there is one (R70: `;` starts a comment). -/
def stripComment (t : List Char) : List Char := t.takeWhile fun c => c != ';'

/-- The pieces between commas. -/
def splitCommas : List Char → List (List Char)
  | [] => [[]]
  | c :: cs =>
    if c == ',' then [] :: splitCommas cs
    else
      match splitCommas cs with
      | [] => [[c]]
      | p :: ps => (c :: p) :: ps

/-! ## Numerals -/

/-- The value of a digit in a base up to 16. -/
def digitValue (base : Nat) (c : Char) : Option Nat :=
  let n := c.toNat
  let d := if 48 ≤ n ∧ n ≤ 57 then n - 48
    else if 65 ≤ n ∧ n ≤ 70 then n - 55
    else if 97 ≤ n ∧ n ≤ 102 then n - 87
    else 16
  if d < base then some d else none

/-- Digits read from the left, `acc` being the value so far. -/
def digitsValue (base acc : Nat) : List Char → Option Nat
  | [] => some acc
  | c :: cs =>
    match digitValue base c with
    | some d => digitsValue base (base * acc + d) cs
    | none => none

/-- At least one digit. -/
def naturalValue (base : Nat) (t : List Char) : Option Nat := if t.isEmpty then none else digitsValue base 0 t

/-- A numeral: decimal, optionally signed, or `0x` and hexadecimal digits (R70). -/
def numeralValue : List Char → Option Int
  | '0' :: 'x' :: t => (naturalValue 16 t).map fun n => (n : Int)
  | '-' :: t => (naturalValue 10 t).map fun n => -(n : Int)
  | '+' :: t => (naturalValue 10 t).map fun n => (n : Int)
  | t => (naturalValue 10 t).map fun n => (n : Int)

/-- A numeral between two bounds, both included; any other text is refused (log 25). -/
def numeralIn (lo hi : Int) (t : List Char) : Option Int :=
  (numeralValue t).bind fun v => if lo ≤ v ∧ v ≤ hi then some v else none

/-! ## Commands -/

/-- The name is the mnemonic or the source's own name for it (R70). -/
def isNamed (name : List Char) (mnemonic other : String) : Bool :=
  name == mnemonic.toList || name == other.toList

/-- The command with this name and these operands (R70). -/
def instrOfText (name : List Char) (ops : List (List Char)) : Option Instr :=
  match ops with
  | [] =>
    if isNamed name "INIT" "init" then some .init
    else if isNamed name "ACTIVATE" "activate" then some .activate
    else if isNamed name "DEACTIVATE" "deactivate" then some .deactivate
    else if isNamed name "SAMPLE_LUX" "sample_lux" then some .sampleLux
    else if isNamed name "READ_MV" "read_millivolts" then some .readMv
    else none
  | [a] =>
    if isNamed name "ENC_LUX" "encode_lux" then
      (numeralIn (-(2 ^ 63)) (2 ^ 63 - 1) a).map fun v => .encLux (BitVec.ofInt 64 v)
    else if isNamed name "ENC_BATT" "encode_battery" then
      if a == "unknown".toList then some (.encBatt true 0)
      else (numeralIn 0 255 a).map fun v => .encBatt false (BitVec.ofInt 8 v)
    else if isNamed name "EST_PCT" "estimate_percent" then
      (numeralIn (-(2 ^ 31)) (2 ^ 31 - 1) a).map fun v => .estPct (BitVec.ofInt 32 v)
    else none
  | [a, b] =>
    if isNamed name "BUILD_REC" "build_record" then
      (numeralIn 0 (2 ^ 24 - 1) a).bind fun l =>
        (numeralIn 0 255 b).map fun p => .buildRec (BitVec.ofInt 24 l) (BitVec.ofInt 8 p)
    else none
  | _ :: _ :: _ :: _ => none

/-- The operands after a name: none, or separated by commas, in parentheses where the source's own call form is used (log 25). -/
def operandsOfText (t : List Char) : Option (List (List Char)) :=
  match trimText t with
  | [] => some []
  | '(' :: u =>
    match u.reverse with
    | ')' :: v =>
      let w := trimText v.reverse
      some (if w.isEmpty then [] else (splitCommas w).map trimText)
    | _ => none
  | u => some ((splitCommas u).map trimText)

/-- The command written on a line of text (R70), if it is one. -/
def parseText (line : String) : Option Instr :=
  let t := trimText (stripComment line.toList)
  let name := t.takeWhile fun c => !isBlank c && c != '('
  (operandsOfText (t.drop name.length)).bind (instrOfText name)

/-- The word of the command written on a line of text (R70's table). -/
def assemble (line : String) : Option CmdWord := (parseText line).map encode

/-! ## Responses -/

/-- The name of a status (R65, R70). -/
def Status.text : Status → String
  | .ok => "OK"
  | .notReady => "NotReady"
  | .configFailed => "ConfigFailed"
  | .writeFailed => "WriteFailed"
  | .fetchFailed => "FetchFailed"
  | .readFailed => "ReadFailed"
  | .notActive => "NotActive"
  | .adcFailed => "AdcFailed"
  | .contractViolation => "ContractViolation"
  | .illegalCommand => "IllegalCommand"

/-- A hexadecimal digit. -/
def hexDigit (d : Nat) : Char := Char.ofNat (if d < 10 then 48 + d else 55 + d)

/-- The low `n` hexadecimal digits of a number, the most significant first. -/
def hexDigits : Nat → Nat → List Char
  | 0, _ => []
  | n + 1, v => hexDigits n (v / 16) ++ [hexDigit (v % 16)]

/-- A response after `->`: the status name and, for `OK`, the data in hexadecimal, `n` digits of it (R70). -/
def Response.text (n : Nat) (r : Response) : String :=
  if r.status = .ok then r.status.text ++ " 0x" ++ String.ofList (hexDigits n r.data.toNat) else r.status.text

end Sys2Proof.Machine
end

