-- ==== Sys2Proof/Tests/Slice0.lean ====
section
/-! SUPPORT. Small tests, their expected results taken from the spec's own vectors (95_test_vectors.md) or worked out from its rules; and a
witness for the hypotheses of every statement that has some. -/

namespace Sys2Proof.Tests

open Sys2Proof.Machine

/-! ## Small states -/

/-- Right after reset with the example parameters of R6, the environment's two values chosen, a host driving the port. -/
def fresh : State := { State.resetWith Params.sample with physReg := 0x1801, now := 1000, driver := .host [] }

/-- After an `INIT` that read back 0x1801 (P4, step 3). -/
def ready : State := { fresh with ctl := .ready, cache := some 0x1801 }

/-- The write that started the sensor, as it stands in the history. -/
def startEvent : Event := ⟨.busWrite 0x00 0x1800, .ok, 1000⟩

/-- Sensor running, the settle time just over: 1000 + 152,500 (P4, step 9; section 2.6's timing vector). -/
def active : State :=
  { ready with pstate := .active, cache := some 0x1800, physReg := 0x1800, now := 153500, trace := [startEvent] }

/-- In the first settle delay (section 2.6's timing vector). -/
def warming : State :=
  { ready with
    pstate := .warming, cache := some 0x1800, physReg := 0x1800, wstage := .w1, wDeadline := 3500, busy := true
    cur := encode .activate, trace := [startEvent] }

/-- In the second settle delay. -/
def settling : State := { warming with wstage := .w2, wDeadline := 153500, now := 3500 }

/-- The sequencer's turn in a phase. -/
def inPhase (ph : Phase) : State := { active with driver := .sequencer, phase := ph }

/-- A choice of the environment: it takes no time and nobody else writes. (`exec` alone draws for its calls; a `step` draws its own time
first.) -/
def good : Draw := ⟨0, none, .ok, 0, 0⟩

def bad : Draw := { good with reply := .fail }

def mute : Draw := { good with reply := .never }

def after (n : Nat) : Draw := { good with elapsed := n }

/-- The `n`-th choice where `k` good answers come before one that never comes. -/
def drawnMute (s : State) (k n : Nat) : Draw := State.drawAt { s with script := List.replicate k good ++ [mute] } n

/-- The next state's answer to a question; the rest of the outcomes have none. -/
def answer {α : Type} (f : State → α) : Host.Outcome State Fault Refusal → Option α
  | .next t => some (f t)
  | .fault _ => none
  | .refused _ => none

/-! ## Well-formedness (R85) -/

theorem test_wf_refuses_101 : (Instr.encBatt false 101).wellFormed = false := by decide

theorem test_wf_takes_100 : (Instr.encBatt false 100).wellFormed = true := by decide

theorem test_wf_takes_unknown_255 : (Instr.encBatt true 255).wellFormed = true := by decide

/-! ## Decoding, a word per constructor written out from R61 and R64 (and 95_test_vectors.md sections 2.1 to 2.7) -/

theorem test_decode_init : decode 0x010000000000000000 = .ok .init := by decide

theorem test_decode_activate : decode 0x020000000000000000 = .ok .activate := by decide

theorem test_decode_deactivate : decode 0x030000000000000000 = .ok .deactivate := by decide

theorem test_decode_sample_lux : decode 0x040000000000000000 = .ok .sampleLux := by decide

theorem test_decode_enc_lux : decode 0x107FFFFFFFFFFFFFFF = .ok (.encLux 0x7FFFFFFFFFFFFFFF) := by decide

theorem test_decode_enc_batt : decode 0x110000000000000164 = .ok (.encBatt true 0x64) := by decide

theorem test_decode_build_rec : decode 0x120000000000B71B00 = .ok (.buildRec 0xB71B00 0x00) := by decide

theorem test_decode_read_mv : decode 0x200000000000000000 = .ok .readMv := by decide

theorem test_decode_est_pct : decode 0x2100000000FFFFFFFF = .ok (.estPct (-1)) := by decide

theorem test_decode_opcode_05 : decode 0x050000000000000000 = .error .opcode := by decide

theorem test_decode_opcode_ff : decode 0xFFFFFFFFFFFFFFFFFF = .error .opcode := by decide

theorem test_decode_reserved_activate : decode 0x020000000000000001 = .error .reserved := by decide

theorem test_decode_reserved_enc_batt : decode 0x110000000000000200 = .error .reserved := by decide

theorem test_decode_reserved_build_rec : decode 0x120000000100000000 = .error .reserved := by decide

theorem test_table_word : decodeTableWord 72 0x110000000000000037 = some (.encBatt false 55) := by decide

theorem test_table_word_runs :
    step (State.reset.withFetchWord 72 0x210000000000000BB7)
      = exec (.estPct 2999) ((State.reset.withFetchWord 72 0x210000000000000BB7).tick.accept 0x210000000000000BB7) := by rfl

/-! ## Text (R70) -/

theorem test_text_enc_lux : assemble "ENC_LUX 1234567 ; S1" = some 0x10000000000012D687 := by decide

theorem test_text_build_rec : assemble "BUILD_REC 0x00007B, 0x37" = some 0x12000000003700007B := by decide

theorem test_text_unknown : assemble "ENC_BATT unknown" = some 0x110000000000000100 := by decide

theorem test_text_own_name : assemble "estimate_percent(-1)" = some 0x2100000000FFFFFFFF := by decide

theorem test_text_too_large : assemble "ENC_BATT 256" = none := by decide

theorem test_text_response : Response.text 6 ⟨.ok, 0x7B⟩ = "OK 0x00007B" := by decide

/-! ## One step of each command -/

/-- Section 2.6: the read-back of 0x1801. -/
theorem test_init_reads_back :
    answer (fun t => (t.ctl, t.cache, t.pstate, t.rsp)) (exec .init { fresh with script := [good, good, good, good] })
      = some (.ready, some 0x1801, .off, some ⟨.ok, 0x1801⟩) := by decide

/-- P5: the read-back fails. -/
theorem test_init_fails_on_read_back :
    answer (fun t => (t.ctl, t.fatalCode, t.cache, t.rsp)) (exec .init { fresh with script := [good, good, good, bad] })
      = some (.fatal, 0x02, none, some ⟨.configFailed, 0⟩) := by decide

/-- Section 2.6: cache 0x1801, frame 00 00 18, acknowledged at 1,000, deadline 3,500. -/
theorem test_activate_writes_and_warms :
    answer (fun t => (t.cache, t.pstate, t.wDeadline, t.trace.map fun e => e.call.frame))
        (exec .activate { ready with script := [good] })
      = some (some 0x1800, .warming, 3500, [[0x00, 0x00, 0x18]]) := by decide

/-- Section 2.6: a failed write leaves the cache. -/
theorem test_activate_failed :
    answer (fun t => (t.cache, t.physReg, t.pstate, t.rsp)) (exec .activate { ready with script := [bad] })
      = some (some 0x1801, 0x1801, .off, some ⟨.writeFailed, 0⟩) := by decide

/-- Section 2.6: `SD_MASK = 0x8000`, `PWR_REG_ADDR = 0x2A`, frame 2A 23 81. -/
theorem test_deactivate_sets_its_bit :
    answer (fun t => (t.cache, t.pstate, t.trace.head?.map fun e => e.call.frame))
        (exec .deactivate { active with
          params := { Params.sample with sdMask := 0x8000, pwrRegAddr := 0x2A }, cache := some 0x0123, script := [good] })
      = some (some 0x8123, .off, some [0x2A, 0x23, 0x81]) := by decide

/-- Section 2.6: a failed shutdown leaves the sensor on. -/
theorem test_deactivate_failed :
    answer (fun t => (t.cache, t.pstate, t.rsp)) (exec .deactivate { active with script := [bad] })
      = some (some 0x1800, .active, some ⟨.writeFailed, 0⟩) := by decide

/-- P4, step 11: a reading of -5000 microlux. -/
theorem test_sample_lux_negative :
    answer (fun t => (t.rsp, t.pstate))
        (exec .sampleLux { active with script := [good, { good with lux := 0xFFFFFFFFFFFFEC78 }] })
      = some (some ⟨.ok, 0x00FFFFFFFFFFFFEC78⟩, .active) := by decide

/-- P4, step 4: no fetch is made. -/
theorem test_sample_lux_off :
    answer (fun t => (t.rsp, t.trace)) (exec .sampleLux ready) = some (some ⟨.notActive, 0⟩, []) := by decide

/-- Section 2.1: the last value below the clamp, all three bytes in use. -/
theorem test_enc_lux_below_clamp :
    answer (fun t => t.rsp) (exec (.encLux 0x270FFFC567) fresh) = some (some ⟨.ok, 0xFFFFFE⟩) := by decide

/-- Section 2.1: the largest int64 does not wrap. -/
theorem test_enc_lux_top :
    answer (fun t => t.rsp) (exec (.encLux 0x7FFFFFFFFFFFFFFF) fresh) = some (some ⟨.ok, 0xFFFFFF⟩) := by decide

/-- Section 2.2: unknown with the percent field 0x64. -/
theorem test_enc_batt_unknown :
    answer (fun t => t.rsp) (exec (.encBatt true 0x64) fresh) = some (some ⟨.ok, 0xFF⟩) := by decide

/-- Section 2.2: `ENC_BATT 255` is not 0xFF. -/
theorem test_enc_batt_255 :
    answer (fun t => t.rsp) (exec (.encBatt false 0xFF) fresh) = some (some ⟨.contractViolation, 0⟩) := by decide

/-- Section 2.3: three different lux bytes. -/
theorem test_build_rec :
    answer (fun t => t.rsp) (exec (.buildRec 0xB71B00 0x00) fresh) = some (some ⟨.ok, 0x0001B71B000540FCD2⟩) := by decide

/-- Section 2.3: the same record byte by byte. -/
theorem test_build_rec_bytes :
    recordBytesOf (buildRec Params.sample 0xB71B00 0x00) = [0xD2, 0xFC, 0x40, 0x05, 0x00, 0x1B, 0xB7, 0x01, 0x00] := by decide

/-- Section 2.5: -100 is -87 mV, truncating toward zero. -/
theorem test_read_mv_negative :
    answer (fun t => t.rsp) (exec .readMv { fresh with script := [{ good with raw := 0xFF9C }] })
      = some (some ⟨.ok, 0xFFFFFFA9⟩) := by decide

/-- Section 2.5: 3412 is 2999 mV. -/
theorem test_read_mv_2999 :
    answer (fun t => t.rsp) (exec .readMv { fresh with script := [{ good with raw := 3412 }] })
      = some (some ⟨.ok, 0x00000BB7⟩) := by decide

/-- Section 2.4: 2999 mV is 99 percent. -/
theorem test_est_pct_2999 : answer (fun t => t.rsp) (exec (.estPct 2999) fresh) = some (some ⟨.ok, 0x63⟩) := by decide

/-- R222 (c): a pure command takes a time, the step's own. -/
theorem test_pure_command_takes_time :
    answer (fun t => (t.now, t.rsp)) (step { fresh with cmd := some (encode (.estPct 2999)), script := [after 7] })
      = some (1007, some ⟨.ok, 0x63⟩) := by decide

/-- Section 2.4: 2549 mV is 19 percent, by the formula and by the table. -/
theorem test_est_pct_2549 : (estPct 2549, estPctRom 2549, estPct (-1), estPctRom 2320) = (19, 19, 0, 1) := by decide

/-! ## Inv holds of the small states: the witnesses of the statements that assume it -/

theorem fresh_core : CoreInv fresh where
  ready_iff_cache := by decide
  powered_ready := by decide
  warming_iff_stage := by decide
  warming_busy := by decide
  powered_bit_clear := fun h => absurd rfl h
  fatal_code_zero := by decide
  fatal_code_set := by decide
  first_delay := fun h => nomatch h
  second_delay := fun h => nomatch h
  settled := fun h => nomatch h
  busy_why := by decide
  pending_why := by decide

theorem ready_core : CoreInv ready where
  ready_iff_cache := by decide
  powered_ready := by decide
  warming_iff_stage := by decide
  warming_busy := by decide
  powered_bit_clear := fun h => absurd rfl h
  fatal_code_zero := by decide
  fatal_code_set := by decide
  first_delay := fun h => nomatch h
  second_delay := fun h => nomatch h
  settled := fun h => nomatch h
  busy_why := by decide
  pending_why := by decide

theorem active_core : CoreInv active where
  ready_iff_cache := by decide
  powered_ready := by decide
  warming_iff_stage := by decide
  warming_busy := by decide
  powered_bit_clear := by rintro - c ⟨⟩; decide
  fatal_code_zero := by decide
  fatal_code_set := by decide
  first_delay := fun h => nomatch h
  second_delay := fun h => nomatch h
  settled := fun _ => ⟨0x1800, 1000, by decide, by decide, by decide⟩
  busy_why := by decide
  pending_why := by decide

theorem settling_core : CoreInv settling where
  ready_iff_cache := by decide
  powered_ready := by decide
  warming_iff_stage := by decide
  warming_busy := by decide
  powered_bit_clear := by rintro - c ⟨⟩; decide
  fatal_code_zero := by decide
  fatal_code_set := by decide
  first_delay := fun h => nomatch h
  second_delay := fun _ => ⟨0x1800, 1000, by decide, by decide, by decide⟩
  settled := fun h => nomatch h
  busy_why := by decide
  pending_why := by decide

theorem fresh_record : RecordInv fresh where
  canonical := by decide
  id_low := by decide
  id_high := by decide
  device_info := by decide
  lux_marker := by decide
  batt_marker := by decide
  battery := by decide

/-- Everything the invariant asks of a host-driven state that differs from a small state only in what is offered and drawn. -/
theorem inv_offering {s : State} (c : CoreInv s) (r : RecordInv s) (ws : List CmdWord) (w : Option CmdWord) (ds : List Draw)
    (hd : s.driver = .host []) : Inv { s with cmd := w, script := ds, driver := .host ws } where
  core := by
    obtain ⟨a1, a2, a3, a4, a5, a6, a7, a8, a9, a10, a11, a12⟩ := c
    exact ⟨a1, a2, a3, a4, a5, a6, a7, a8, a9, a10, a11, fun h => (a12 h).imp id fun e => by rw [hd] at e; cases e⟩
  record := by
    obtain ⟨a1, a2, a3, a4, a5, a6, a7⟩ := r
    exact ⟨a1, a2, a3, a4, a5, a6, a7⟩
  sequencer := fun h => nomatch h

theorem ready_record : RecordInv ready := ⟨by decide, by decide, by decide, by decide, by decide, by decide, by decide⟩

theorem active_record : RecordInv active := ⟨by decide, by decide, by decide, by decide, by decide, by decide, by decide⟩

theorem settling_record : RecordInv settling := ⟨by decide, by decide, by decide, by decide, by decide, by decide, by decide⟩

/-- The sequencer's turn in `IDLE`, the sensor off. -/
def idling : State := { ready with driver := .sequencer, phase := .idle, script := [good, good, good, good] }

theorem idling_inv : Inv idling where
  core := by
    obtain ⟨a1, a2, a3, a4, a5, a6, a7, a8, a9, a10, a11, a12⟩ := ready_core
    exact ⟨a1, a2, a3, a4, a5, a6, a7, a8, a9, a10, a11, fun h => nomatch h⟩
  record := ⟨by decide, by decide, by decide, by decide, by decide, by decide, by decide⟩
  sequencer := fun _ =>
    { boot := by decide
      running := by decide
      halted := by decide
      offered := fun _ h => nomatch h
      answered := fun _ h => nomatch h
      warming := by decide
      sampling := by decide
      locals := by decide }

/-- A machine whose `INIT` failed. -/
def failed : State := { fresh with ctl := .fatal, fatalCode := 0x02 }

theorem failed_inv : Inv failed where
  core :=
    { ready_iff_cache := by decide
      powered_ready := by decide
      warming_iff_stage := by decide
      warming_busy := by decide
      powered_bit_clear := fun h => absurd rfl h
      fatal_code_zero := by decide
      fatal_code_set := by decide
      first_delay := fun h => nomatch h
      second_delay := fun h => nomatch h
      settled := fun h => nomatch h
      busy_why := by decide
      pending_why := by decide }
  record := ⟨by decide, by decide, by decide, by decide, by decide, by decide, by decide⟩
  sequencer := fun h => nomatch h

/-! ## Witnesses: each statement's hypotheses, met together -/

/-- AcceptedWordIsItsCommandsWord. -/
theorem witness_accepted_word : decode 0x1100000000000001FF = .ok (.encBatt true 0xFF) := by decide

/-- DecoderFollowsOpcodeMap: the rows' part. -/
theorem witness_rows : ∃ r ∈ opcodeMap, (0x11FF00000000000000 : CmdWord) &&& r.mask ≠ r.pattern ∧
    (0x1100000000000001FF : CmdWord) &&& r.mask = r.pattern :=
  ⟨⟨"ENC_BATT", 0x110000000000000000, 0xFFFFFFFFFFFFFFFE00⟩, by decide, by decide, by decide⟩

/-- StepRunsTheAcceptedCommand. -/
theorem witness_step_runs :
    State.aboutToAccept { ready with cmd := some 0x2100000000FFFFFFFF } 0x2100000000FFFFFFFF ∧
      decode 0x2100000000FFFFFFFF = .ok (.estPct (-1)) := ⟨⟨rfl, rfl, by decide⟩, by decide⟩

/-- IllegalWordAnsweredWithoutEffect. -/
theorem witness_illegal_word :
    State.aboutToAccept { active with cmd := some 0x048000000000000000 } 0x048000000000000000 ∧
      ∀ r ∈ opcodeMap, (0x048000000000000000 : CmdWord) &&& r.mask ≠ r.pattern := ⟨⟨rfl, rfl, by decide⟩, by decide⟩

/-- PortHoldsWhileBusy. -/
theorem witness_busy : warming.resetIn = false ∧ warming.busy = true := by decide

/-- FailedInitStopsMachine: a word offered, a host with words left, the sequencer halted. -/
theorem witness_failed :
    (failed.resetIn = false ∧ failed.busy = false) ∧
    (failed.ctl = .fatal ∧ State.cmd { failed with cmd := some 0x100000000000000000 } = some 0x100000000000000000) ∧
    (failed.cmd = none ∧ State.driver { failed with driver := .host [0x00] } = .host [0x00]) ∧
    State.sequencerTurn { failed with driver := .sequencer, phase := .halted } :=
  ⟨by decide, by decide, by decide, rfl, rfl, rfl, rfl, rfl⟩

/-- HostOffersItsWords: a word left, and none. -/
theorem witness_host :
    (ready.resetIn = false ∧ ready.busy = false ∧ ready.cmd = none ∧ ready.ctl ≠ .fatal ∧ ready.driver = .host []) ∧
      State.driver { ready with driver := .host [0x200000000000000000] } = .host [0x200000000000000000] ∧
      answer (fun t => t.cmd) (step { ready with driver := .host [0x200000000000000000] })
        = some (some 0x200000000000000000) := by decide

/-- UnansweredCallHangs: every call of every command; the sequencer's `Publish`; a step after. -/
theorem witness_unanswered :
    (∀ k < 4, (fresh.callsOf .init)[k]?.isSome = true ∧ (∀ n < k, (drawnMute fresh k n).reply = .ok) ∧
      (drawnMute fresh k k).reply = .never) ∧
    (∀ i ∈ ([.activate, .deactivate, .sampleLux, .readMv] : List Instr), (active.callsOf i)[0]?.isSome = true) ∧
    (active.callsOf .sampleLux)[1]? = some .sensorGetLux ∧
    ((State.drawAt { inPhase .publishing with script := [good, mute] } 1).reply = .never) ∧
    (∀ b, State.resetIn { active with busy := b, pending := some .sensorFetch, driver := .sequencer } = false ∧
      (State.pending { active with busy := b, pending := some .sensorFetch, driver := .sequencer }).isSome = true ∧
      State.cmd { active with busy := b, pending := some .sensorFetch, driver := .sequencer } = none) := by decide

/-- EncLuxIntervals: the ends of the intervals, the least and the greatest `k`, the clamp. -/
theorem witness_enc_lux :
    (BitVec.toInt 4999#64 < 5000 ∧ BitVec.toInt 0x8000000000000000#64 < 5000) ∧
    (10000 * (1 : Int) - 5000 ≤ BitVec.toInt 5000#64 ∧ BitVec.toInt 14999#64 ≤ 10000 * 1 + 4999) ∧
    (10000 * (16777214 : Int) - 5000 ≤ BitVec.toInt 167772144999#64 ∧
      BitVec.toInt 167772144999#64 ≤ 10000 * 16777214 + 4999) ∧
    167772145000 ≤ BitVec.toInt 167772145000#64 := by decide

/-- EncLuxIntervals: monotony. -/
theorem witness_monotone : BitVec.toInt (-1#64) ≤ BitVec.toInt 0#64 := by decide

/-- EncBattAnswersByteOrRefuses: both sides of the boundary. -/
theorem witness_enc_batt : BitVec.toNat 100#8 ≤ 100 ∧ 101 ≤ BitVec.toNat 101#8 := by decide

/-- PureCommandsReadNoRegister. -/
theorem witness_pure : fresh.params = active.params ∧ ∃ m, Instr.encLux 5000 = .encLux m := ⟨rfl, 5000, rfl⟩

/-- EstPctShape. -/
theorem witness_est_pct :
    BitVec.toInt 2399#32 ≤ BitVec.toInt 2400#32 ∧ 2300 ≤ BitVec.toInt 2300#32 ∧ BitVec.toInt 2999#32 < 3000 := by decide

/-- ReadMvAnswersOneScaledSample: both answers. -/
theorem witness_read_mv :
    (State.drawAt { fresh with script := [good] } 0).reply ≠ .never ∧
      (State.drawAt { fresh with script := [bad] } 0).reply ≠ .never := by decide

/-- RawToMvIsExactQuotient: the example parameters, and both ends of the resolution's range. -/
theorem witness_params :
    Params.sample.ok = true ∧ Params.ok { Params.sample with adcResBits := 1 } = true ∧
      Params.ok { Params.sample with adcResBits := 15 } = true := by decide

/-- InitReadsBackIntoCache. -/
theorem witness_init :
    fresh.ctl = .uninit ∧ ∀ n < 4, (State.drawAt { fresh with script := [good, good, good, good] } n).reply = .ok := by decide

/-- InitFailureIsFatal: the first call, and the last. -/
theorem witness_init_failure :
    (State.drawAt { fresh with script := [bad] } 0).reply = .fail ∧
      (∀ n < 3, (State.drawAt { fresh with script := [good, good, good, bad] } n).reply = .ok) ∧
      (State.drawAt { fresh with script := [good, good, good, bad] } 3).reply = .fail := by decide

/-- LifecycleViolationsRefused: both lifecycle states. -/
theorem witness_lifecycle : ready.ctl = .ready ∧ fresh.ctl = .uninit := by decide

/-- ActivateEntersWarmUp and DeactivateShutsDown, from `OFF` and from `ACTIVE`. -/
theorem witness_power_write :
    (ready.ctl = .ready ∧ ready.cache = some 0x1801 ∧ (State.drawAt { ready with script := [good] } 0).reply = .ok) ∧
    (active.ctl = .ready ∧ active.cache = some 0x1800 ∧ (State.drawAt { active with script := [good] } 0).reply = .ok) := by
  decide

/-- FailedPowerWriteChangesNothing: both commands. -/
theorem witness_failed_write :
    active.ctl = .ready ∧ active.cache = some 0x1800 ∧ (State.drawAt { active with script := [bad] } 0).reply = .fail ∧
      (0x1800 : BitVec 16) = 0x1800 &&& ~~~active.params.sdMask ∧ (0x1801 : BitVec 16) = 0x1800 ||| active.params.sdMask := by
  decide

/-- FirstSettleDelayHolds: one microsecond early, and on time (section 2.6: 3,499 and 3,500). -/
theorem witness_first_delay :
    (warming.resetIn = false ∧ warming.busy = true ∧ warming.pending = none ∧ warming.wstage = .w1) ∧
      (State.tick { warming with script := [after 2499] }).now < warming.wDeadline ∧
      warming.wDeadline ≤ (State.tick { warming with script := [after 2500] }).now := by decide

/-- SecondSettleDelayHolds: one microsecond early, and on time (section 2.6: 153,499 and 153,500). -/
theorem witness_second_delay :
    (settling.resetIn = false ∧ settling.busy = true ∧ settling.pending = none ∧ settling.wstage = .w2) ∧
      (State.tick { settling with script := [after 149999] }).now < settling.wDeadline ∧
      settling.wDeadline ≤ (State.tick { settling with script := [after 150000] }).now := by decide

/-- ActivateCompletesAfterBothDelays. -/
theorem witness_activate_completes :
    State.aboutToAccept { ready with cmd := some (encode .activate), script := [good, good, after 2500, after 150000] }
        (encode .activate) ∧
      ready.ctl = .ready ∧ ready.cache = some 0x1801 ∧ ready.pending = none ∧ good.reply = .ok ∧
      ready.params.tStartUs ≤ (after 2500).elapsed ∧ ready.params.tIntUs + 50000 ≤ (after 150000).elapsed :=
  ⟨⟨rfl, rfl, by decide⟩, by decide⟩

/-- SampleLuxAnswersReading and SampleLuxReportsFailedStep. -/
theorem witness_sample :
    active.ctl = .ready ∧ active.pstate = .active ∧
      (State.drawAt { active with script := [good, good] } 0).reply = .ok ∧
      (State.drawAt { active with script := [good, good] } 1).reply = .ok ∧
      (State.drawAt { active with script := [bad] } 0).reply = .fail ∧
      (State.drawAt { active with script := [good, bad] } 1).reply = .fail := by decide

/-- SampleLuxRefusedUnlessActive: both other power states. -/
theorem witness_not_active :
    ready.ctl = .ready ∧ ready.pstate ≠ .active ∧ warming.ctl = .ready ∧ warming.pstate ≠ .active := by decide

/-- NoReadingBeforeSettleTime: a reading is obtained exactly when the settle time is over. -/
theorem witness_reading :
    Inv { active with cmd := some (encode .sampleLux), script := [good, good, good], driver := .host [] } ∧
    State.aboutToAccept { active with cmd := some (encode .sampleLux), script := [good, good, good] } (encode .sampleLux) ∧
    answer (fun t => t.rsp) (step { active with cmd := some (encode .sampleLux), script := [good, good, good] })
      = some (some ⟨.ok, 0⟩) :=
  ⟨inv_offering active_core active_record [] _ _ rfl, ⟨rfl, rfl, by decide⟩, by decide⟩

/-- ErrorsArePrecise and CommandsLeaveSequencerAlone. -/
theorem witness_error :
    Instr.activate ≠ .init ∧ active.rsp = none ∧
      answer (fun t => t.rsp) (exec .activate { active with script := [bad] }) = some (some ⟨.writeFailed, 0⟩) := by decide

/-- PowerStateChangesOnlyByItsTable, OnlyShutdownBitOfCacheChanges, EveryStepKeepsInvariant, ClockAdvancesParametersStay: a step
of each row of R100's table. -/
theorem witness_power_table :
    (Inv { ready with cmd := some (encode .activate), script := [good, good], driver := .host [] } ∧
      answer (fun t => t.pstate) (step { ready with cmd := some (encode .activate), script := [good, good] })
        = some .warming) ∧
    (Inv { settling with cmd := none, script := [after 150000], driver := .host [] } ∧
      answer (fun t => t.pstate) (step { settling with script := [after 150000] }) = some .active) ∧
    (Inv { active with cmd := some (encode .deactivate), script := [good, good], driver := .host [] } ∧
      answer (fun t => t.pstate) (step { active with cmd := some (encode .deactivate), script := [good, good] })
        = some .off) :=
  ⟨⟨inv_offering ready_core ready_record [] _ _ rfl, by decide⟩,
    ⟨inv_offering settling_core settling_record [] _ _ rfl, by decide⟩,
    ⟨inv_offering active_core active_record [] _ _ rfl, by decide⟩⟩

/-- ShutdownLastsUntilActivate. -/
theorem witness_shutdown :
    Inv { ready with cmd := none, script := [good], driver := .host [] } ∧ ready.resetIn = false ∧ ready.ctl = .ready ∧
      ready.pstate = .off ∧ ready.cache = some 0x1801 ∧ (0x1801 : BitVec 16) &&& ready.params.sdMask = ready.params.sdMask ∧
      answer (fun t => t.pstate) (step { ready with script := [good] }) = some .off :=
  ⟨inv_offering ready_core ready_record [] _ _ rfl, by decide⟩

/-- CacheTracksRegisterWithoutOtherWriters. -/
theorem witness_sole_writer :
    (∀ n < 5, (State.drawAt { fresh with script := [good, good, good, good, good] } n).rewrite = none) ∧ fresh.cache = none ∧
      answer (fun t => t.cache)
        (step { fresh with cmd := some (encode .init), script := [good, good, good, good, good] }) = some (some 0x1801) := by
  decide

/-- SequencerOffersItsPhasesCommand: its five phases. -/
theorem witness_offers :
    ∀ ph ∈ ([.boot, .activating, .samplingLux, .samplingBattery, .deactivating] : List Phase),
      (inPhase ph).resetIn = false ∧ (inPhase ph).busy = false ∧ (inPhase ph).cmd = none ∧ (inPhase ph).pending = none ∧
        (inPhase ph).driver = .sequencer ∧ (inPhase ph).rsp = none := by decide

/-- SequencerBranchesOnStatus, SamplingNeverAbortsCycle, DeactivatingSetsWakeTime: a response waits. -/
theorem witness_response :
    ∀ ph ∈ ([.boot, .activating, .samplingLux, .samplingBattery, .deactivating] : List Phase),
      ∀ st ∈ ([.ok, .notReady, .configFailed, .writeFailed, .fetchFailed] : List Status),
        State.sequencerTurn { inPhase ph with rsp := some ⟨st, 0⟩ } ∧
          State.rsp { inPhase ph with rsp := some ⟨st, 0⟩ } = some ⟨st, 0⟩ ∧
          State.phase { inPhase ph with rsp := some ⟨st, 0⟩ } = ph :=
  fun _ _ _ _ => ⟨⟨rfl, rfl, rfl, rfl, rfl⟩, rfl, rfl⟩

/-- IdleClearsSamples. -/
theorem witness_idle : State.sequencerTurn (inPhase .idle) ∧ (inPhase .idle).phase = .idle :=
  ⟨⟨rfl, rfl, rfl, rfl, rfl⟩, rfl⟩

/-- PhaseFollowsItsTable: a step that changes the phase. -/
theorem witness_phase :
    (inPhase .sleeping).resetIn = false ∧
      answer (fun t => t.phase) (step { inPhase .sleeping with script := [good] }) = some .idle := by decide

/-- EncodingBuildsAndStoresRecord: with both samples, and with none; no choice drawn is a rewrite. -/
theorem witness_encoding :
    (State.sequencerTurn { inPhase .encoding with sLux := some 0, sMv := some 3100 } ∧
      (inPhase .encoding).ctl ≠ .fatal ∧ (inPhase .encoding).phase = .encoding ∧ (inPhase .encoding).enc = .lux ∧
      (inPhase .encoding).rsp = none ∧ Memory.wf (inPhase .encoding).params (inPhase .encoding).record = true) ∧
    (State.sequencerTurn (inPhase .encoding) ∧ (inPhase .encoding).sLux = none ∧ (inPhase .encoding).sMv = none) ∧
    ∀ n < 12, (State.drawAt { inPhase .encoding with script := List.replicate 12 good } n).rewrite = none :=
  ⟨⟨⟨rfl, rfl, rfl, rfl, rfl⟩, by decide⟩, ⟨⟨rfl, rfl, rfl, rfl, rfl⟩, by decide⟩, by decide⟩

/-- RecordReplacedWholeOrNotAtAll: the last step of `ENCODING` (P1, step 8). -/
theorem witness_store :
    Memory.wf active.params active.record = true ∧ active.resetIn = false ∧
      answer (fun t => t.recordBytes) (step { inPhase .encoding with
          enc := .build 0 0x64, rsp := some ⟨.ok, 0x64010000000540FCD2⟩ })
        = some [0xD2, 0xFC, 0x40, 0x05, 0x00, 0x00, 0x00, 0x01, 0x64] := by decide

/-- PublishingHandsOverRecord: both answers. -/
theorem witness_publishing :
    State.sequencerTurn (inPhase .publishing) ∧
      (State.drawAt { inPhase .publishing with script := [good, good] } 1).reply ≠ .never ∧
      (State.drawAt { inPhase .publishing with script := [good, bad] } 1).reply ≠ .never :=
  ⟨⟨rfl, rfl, rfl, rfl, rfl⟩, by decide⟩

/-- SleepLastsUntilWakeTime: one microsecond early, and on time. -/
theorem witness_sleeping :
    State.sequencerTurn (inPhase .sleeping) ∧ (inPhase .sleeping).phase = .sleeping ∧ (inPhase .sleeping).rsp = none ∧
      (State.tick { inPhase .sleeping with tWake := 5000000, now := 0, script := [after 4999999] }).now < 5000000 ∧
      5000000 ≤ (State.tick { inPhase .sleeping with tWake := 5000000, now := 0, script := [after 5000000] }).now :=
  ⟨⟨rfl, rfl, rfl, rfl, rfl⟩, by decide⟩

/-- ResetWorksFromAnyState: from `FATAL` and from `WARMING`. -/
theorem witness_reset :
    State.resetIn { failed with resetIn := true } = true ∧ State.resetIn { warming with resetIn := true } = true := by decide

/-- EveryStepKeepsInvariant, OnlyFailedInitStops, SequencerNeverMisusesCommands: the sequencer moves; a machine whose `INIT` failed stops. -/
theorem witness_inv :
    (Inv idling ∧ idling.driver = .sequencer ∧ answer (fun t => t.phase) (step idling) = some .activating) ∧
      (Inv failed ∧ step failed = .fault (.initFailed 0x02)) :=
  ⟨⟨idling_inv, rfl, by decide⟩, failed_inv, rfl⟩

end Sys2Proof.Tests
end

section
/-! The scope of the block: its parameters (R6), and what a command leaves to the sequencer (R7, R16, R22). -/

namespace Sys2Proof

/-! ### The parameters of R6 -/

theorem Params.sample_ok : Params.sample.ok = true := by decide

/-- Whichever of the two choices is taken, it meets R6's constraints. -/
theorem Config.params_ok : Config.params.ok = true := by
  unfold Config.params
  split
  · assumption
  · exact Params.sample_ok

/-- Settles O56: reset takes the parameters of `Config.params`. -/
theorem parametersAtResetAdmissible : Obligations.ParametersAtResetAdmissible :=
  Config.params_ok

end Sys2Proof

namespace Sys2Proof.Machine

variable {s : State}

/-! ### What a command leaves to the sequencer -/

/-- The part of the state that no command writes: the sequencer's registers and the record (R16-R18), what the port and the host
hold, and the parameters. -/
structure SequencerView where
  phase : Phase
  enc : EncStep
  sLux : Option (BitVec 64)
  sMv : Option (BitVec 32)
  tWake : Nat
  record : Memory
  cmd : Option CmdWord
  cur : CmdWord
  driver : Driver
  resetIn : Bool
  params : Params

/-- The view of a state, field by field. -/
def State.sequencerView (s : State) : SequencerView where
  phase := s.phase
  enc := s.enc
  sLux := s.sLux
  sMv := s.sMv
  tWake := s.tWake
  record := s.record
  cmd := s.cmd
  cur := s.cur
  driver := s.driver
  resetIn := s.resetIn
  params := s.params

@[simp] theorem State.call_sequencerView (c : Call) : (s.call c).sequencerView = s.sequencerView := rfl
@[simp] theorem State.sensorTakes_sequencerView (v : BitVec 16) :
    (s.sensorTakes v).sequencerView = s.sequencerView := rfl
@[simp] theorem State.respond_sequencerView (st : Status) (d : Data) :
    (s.respond st d).sequencerView = s.sequencerView := rfl
@[simp] theorem State.reject_sequencerView (st : Status) : (s.reject st).sequencerView = s.sequencerView := rfl
@[simp] theorem State.failInit_sequencerView (st : Status) :
    (s.failInit st).sequencerView = s.sequencerView := rfl
@[simp] theorem State.initDone_sequencerView (v : BitVec 16) :
    (s.initDone v).sequencerView = s.sequencerView := rfl
@[simp] theorem State.startWarmUp_sequencerView (v : BitVec 16) :
    (s.startWarmUp v).sequencerView = s.sequencerView := rfl
@[simp] theorem State.powerDown_sequencerView (v : BitVec 16) :
    (s.powerDown v).sequencerView = s.sequencerView := rfl

@[simp] theorem State.initCalls_sequencerView (k : Nat) :
    (s.initCalls k).sequencerView = s.sequencerView := by
  unfold State.initCalls; split <;> simp only [State.call_sequencerView]

/-- A collaborator call leaves the sequencer alone where both of its continuations do. -/
theorem State.ask_sequencerView {c : Call} {failed done : State → State}
    (hfailed : ∀ t, (failed t).sequencerView = t.sequencerView)
    (hdone : ∀ t, (done t).sequencerView = t.sequencerView) :
    (s.ask c failed done).sequencerView = s.sequencerView :=
  State.ask_cases (P := fun t => t.sequencerView = s.sequencerView)
    (fun _ => by rw [hdone, State.call_sequencerView])
    (fun _ => by rw [hfailed, State.call_sequencerView])
    (fun _ => State.call_sequencerView c)

theorem State.writePower_sequencerView {v : BitVec 16} {failed done : State → State}
    (hfailed : ∀ t, (failed t).sequencerView = t.sequencerView)
    (hdone : ∀ t, (done t).sequencerView = t.sequencerView) :
    (s.writePower v failed done).sequencerView = s.sequencerView :=
  State.ask_sequencerView hfailed fun t => by rw [hdone, State.sensorTakes_sequencerView]

theorem State.initBody_sequencerView : s.initBody.sequencerView = s.sequencerView := by
  refine initBody_ind (P := fun t => t.sequencerView = s.sequencerView) ?hang ?notReady ?badConfig ?done
  case hang => intros; exact State.initCalls_sequencerView _
  case notReady => intro _; simp only [State.failInit_sequencerView, State.initCalls_sequencerView]
  case badConfig => intros; simp only [State.failInit_sequencerView, State.initCalls_sequencerView]
  case done => intro _; simp only [State.initDone_sequencerView, State.initCalls_sequencerView]

theorem State.sampleBody_sequencerView : s.sampleBody.sequencerView = s.sequencerView :=
  State.ask_sequencerView (fun _ => State.reject_sequencerView _) fun _ =>
    State.ask_sequencerView (fun _ => State.reject_sequencerView _) fun _ => State.respond_sequencerView _ _

theorem exec_sequencerView {i : Instr} {t : State} (h : exec i s = .next t) :
    t.sequencerView = s.sequencerView := by
  refine exec_ind (P := fun t => t.sequencerView = s.sequencerView)
    ?answer ?refuse ?init ?power ?sample ?convert t h
  case answer => intro d _; exact State.respond_sequencerView _ _
  case refuse => intro st _ _; exact State.reject_sequencerView _
  case init => intro _ _; exact State.initBody_sequencerView
  case power =>
    rintro c v done - - (⟨-, -, rfl⟩ | ⟨-, -, rfl⟩)
    · exact State.writePower_sequencerView (fun _ => State.reject_sequencerView _)
        fun _ => State.startWarmUp_sequencerView _
    · exact State.writePower_sequencerView (fun _ => State.reject_sequencerView _)
        fun _ => State.powerDown_sequencerView _
  case sample => intro _ _ _; exact State.sampleBody_sequencerView
  case convert =>
    intro _
    exact State.ask_sequencerView (fun _ => State.reject_sequencerView _) fun _ => State.respond_sequencerView _ _

/-- The record's bytes are read from the view alone. -/
theorem State.recordByte_eq_of_sequencerView {t : State} (h : t.sequencerView = s.sequencerView) (k : Fin 9) :
    t.recordByte k = s.recordByte k :=
  congrArg (fun v : SequencerView => Memory.read v.params v.record k) h

/-- Settles O38: no command changes the sequencer's part of the state, and each register named is a field of it. -/
theorem commandsLeaveSequencerAlone : Obligations.CommandsLeaveSequencerAlone := by
  intro i s t h
  have hview := exec_sequencerView h
  obtain ⟨hphase, henc, hlux, hmv, hwake, hrecord, hcmd, hcur, hdriver, hreset, hparams⟩ :=
    SequencerView.mk.inj hview
  exact ⟨hphase, henc, hlux, hmv, hwake, State.recordByte_eq_of_sequencerView hview, hrecord, hcmd, hcur, hdriver,
    hreset, hparams⟩

end Sys2Proof.Machine
end

section
/-! What a step is made of: words that decode, what its parts can leave, and the invariant at reset and over the step's time. -/

namespace Sys2Proof

/-! ### A command's word decodes to the command -/

/-- The decoder's answer for each opcode of the map, whatever the operand (R64). -/
theorem decode_cmdWord (op : BitVec 8) (x : Operand) :
    decode (cmdWord op x) =
      if op = 0x01#8 then formN .init x
      else if op = 0x02#8 then formN .activate x
      else if op = 0x03#8 then formN .deactivate x
      else if op = 0x04#8 then formN .sampleLux x
      else if op = 0x10#8 then formL x
      else if op = 0x11#8 then formP x
      else if op = 0x12#8 then formB x
      else if op = 0x20#8 then formN .readMv x
      else if op = 0x21#8 then formM x
      else .error .opcode := by
  simp only [decode, opcodeOf_cmdWord, operandOf_cmdWord]

theorem decode_encode (i : Instr) : decode (encode i) = .ok i := by
  cases i with
  | init => rfl
  | activate => rfl
  | deactivate => rfl
  | sampleLux => rfl
  | readMv => rfl
  | encLux m => exact decode_cmdWord 0x10#8 m
  | encBatt u p => exact (decode_cmdWord 0x11#8 _).trans (formP_fields u p)
  | buildRec l b => exact (decode_cmdWord 0x12#8 _).trans (formB_fields l b)
  | estPct v => exact (decode_cmdWord 0x21#8 _).trans (formM_fields v)

theorem ifReservedZero_eq_ok {n : Nat} {r : BitVec n} {i j : Instr} (h : ifReservedZero r i = .ok j) :
    r = 0 ∧ i = j := by
  unfold ifReservedZero at h
  split at h
  · next hr => exact ⟨hr, Except.ok.inj h⟩
  · cases h

/-- `ACTIVATE` has one word. -/
theorem eq_encode_of_decode_activate {w : CmdWord} (h : decode w = .ok .activate) : w = encode .activate := by
  rw [← cmdWord_fields w] at h ⊢
  rw [decode_cmdWord] at h
  split_ifs at h with h1 h2 h3 h4 h5
  · cases (ifReservedZero_eq_ok h).2
  · obtain ⟨hx, -⟩ := ifReservedZero_eq_ok h
    rw [h2, hx]
    rfl
  · cases (ifReservedZero_eq_ok h).2
  · cases (ifReservedZero_eq_ok h).2
  · cases h
  all_goals cases (ifReservedZero_eq_ok h).2

end Sys2Proof

namespace Sys2Proof.Machine

variable {s t : State}

/-! ### What a command in progress, a command and a move of the sequencer can leave -/

/-- What a command in progress can leave: nothing happens, the second delay starts (R110), or `ACTIVATE` completes
(R111). -/
theorem inProgress_ind {P : State → Prop} (same : P s)
    (second : s.pending = none → s.wstage = .w1 → s.wDeadline ≤ s.now → P s.startSecondDelay)
    (complete : s.pending = none → s.wstage = .w2 → s.wDeadline ≤ s.now → P s.endWarmUp) : P s.inProgress := by
  unfold State.inProgress
  split
  · exact same
  · next hp =>
    have hp : s.pending = none := by simpa using hp
    unfold State.warm
    split
    · exact same
    · next hw =>
      split
      · next hd => exact second hp hw hd
      · exact same
    · next hw =>
      split
      · next hd => exact complete hp hw hd
      · exact same

/-- The last line of `ENCODING` (R160): the record is replaced by the data of the response. -/
def RecordStored (s t : State) : Prop :=
  ∃ l b r, s.phase = .encoding ∧ s.enc = .build l b ∧ s.rsp = some r ∧ r.status = .ok ∧ t = s.storeRecord r.data

/-- What a move of the sequencer leaves of the core and of the environment: the cache, the power state and the parameters
stay, the environment goes on by at most one draw (`Publish`), and the record stays or is stored as `ENCODING` ends. -/
structure SeqFrame (s t : State) : Prop where
  cache : t.cache = s.cache
  pstate : t.pstate = s.pstate
  params : t.params = s.params
  now : s.now ≤ t.now
  physReg : t.physReg = s.physReg ∨ t.physReg = (s.drawAt 0).rewrite.getD s.physReg
  record : t.record = s.record ∨ RecordStored s t

theorem seqStep_frame (h : seqStep s = .next t) : SeqFrame s t := by
  refine seqStep_ind (P := SeqFrame s) ?issue ?boot ?idle ?activating ?samplingLux ?samplingBattery ?keepLux ?luxBytes
    ?noPercent ?percent ?battery ?store ?publish ?sleep ?sleeping t h
  case store =>
    intro l b r hph he hr hs
    exact ⟨rfl, rfl, rfl, le_rfl, .inl rfl, .inr ⟨l, b, r, hph, he, hr, hs, rfl⟩⟩
  case publish =>
    intro _
    exact ⟨⟨rfl, rfl, rfl, Nat.le_add_right _ _, .inr rfl, .inl rfl⟩,
      ⟨rfl, rfl, rfl, Nat.le_add_right _ _, .inr rfl, .inl rfl⟩⟩
  case sleeping =>
    intro _
    exact ⟨fun _ => ⟨rfl, rfl, rfl, le_rfl, .inl rfl, .inl rfl⟩,
      fun _ => ⟨rfl, rfl, rfl, le_rfl, .inl rfl, .inl rfl⟩⟩
  all_goals
    intros
    exact ⟨rfl, rfl, rfl, le_rfl, .inl rfl, .inl rfl⟩

theorem exec_params {i : Instr} (h : exec i s = .next t) : t.params = s.params :=
  congrArg SequencerView.params (exec_sequencerView h)

theorem exec_record {i : Instr} (h : exec i s = .next t) : t.record = s.record :=
  congrArg SequencerView.record (exec_sequencerView h)

/-! ### The invariant at reset and over the step's time (R20, R210) -/

theorem State.startedBefore.mono {n a b : Nat} (h : s.startedBefore n a) (hab : a ≤ b) : s.startedBefore n b := by
  obtain ⟨v, t₀, hlast, hclear, ht⟩ := h
  exact ⟨v, t₀, hlast, hclear, ht.trans hab⟩

/-- A record that lists nothing reads as its reset contents. -/
theorem RecordInv.of_record_nil (h : s.record = []) : RecordInv s := by
  have hread (k : Fin 9) : s.recordByte k = recordReset s.params k := by
    rw [State.recordByte, h, Memory.read_nil]
  constructor
  case canonical => rw [h]; exact Memory.wf_nil s.params
  case battery => rw [hread]; rfl
  all_goals rw [hread]; rfl

/-- Reset sets up the invariant from any state at all. -/
theorem inv_restart (s : State) : Inv s.restart where
  core := by constructor <;> simp
  record := RecordInv.of_record_nil rfl
  sequencer hd := by
    have hd : s.driver = .sequencer := hd
    constructor <;> simp [hd]

/-- Settles O57: the state at reset is what a reset leaves of it. -/
theorem invariantHoldsAtReset : Obligations.InvariantHoldsAtReset :=
  inv_restart State.reset

theorem CoreInv.tick (h : CoreInv s) : CoreInv s.tick :=
  { h with settled := fun ha => State.startedBefore.mono (h.settled ha) (Nat.le_add_right _ _) }

theorem SeqInv.tick (h : SeqInv s) : SeqInv s.tick := { h with }

theorem State.recordByte_congr (hparams : t.params = s.params) (hrecord : t.record = s.record) (k : Fin 9) :
    t.recordByte k = s.recordByte k := by
  rw [State.recordByte, hparams, hrecord]
  rfl

theorem RecordInv.congr (h : RecordInv s) (hparams : t.params = s.params) (hrecord : t.record = s.record) :
    RecordInv t := by
  have hread := State.recordByte_congr hparams hrecord
  constructor
  case canonical => rw [hparams, hrecord]; exact h.canonical
  all_goals rw [hread]
  case id_low => rw [hparams]; exact h.id_low
  case id_high => rw [hparams]; exact h.id_high
  case device_info => exact h.device_info
  case lux_marker => exact h.lux_marker
  case batt_marker => exact h.batt_marker
  case battery => exact h.battery

theorem Inv.tick (h : Inv s) : Inv s.tick :=
  ⟨h.core.tick, h.record.congr rfl rfl, fun hd => (h.sequencer hd).tick⟩

end Sys2Proof.Machine
end

section
/-! The core while a command executes: whatever a command does, the core's clauses of the invariant hold after it (R21, R111). -/

namespace Sys2Proof.Machine

variable {s t : State}

/-! ### The core while a command executes (R21 items 1 to 4 and 7, R14) -/

/-- The clauses of the core's invariant where no settle delay runs; nothing is said of the port and of an outstanding
call. -/
structure CoreAtRest (s : State) : Prop where
  ready_iff_cache : s.ctl = .ready ↔ s.cache.isSome = true
  powered_ready : s.pstate ≠ .off → s.ctl = .ready
  not_warming : s.pstate ≠ .warming
  no_stage : s.wstage = .wNone
  powered_bit_clear : s.pstate ≠ .off → ∀ c, s.cache = some c → c &&& s.params.sdMask = 0
  fatal_code_zero : s.ctl ≠ .fatal → s.fatalCode = 0
  fatal_code_set : s.ctl = .fatal → s.fatalCode = Status.code .notReady ∨ s.fatalCode = Status.code .configFailed
  settled : s.pstate = .active → s.startedBefore (settleUs s.params) s.now

theorem CoreAtRest.coreInv (h : CoreAtRest s) (busy_why : s.busy = true → s.pending.isSome = true)
    (pending_why : s.pending.isSome = true → s.busy = true ∨ s.driver = .sequencer) : CoreInv s :=
  { h with
    warming_iff_stage := ⟨fun hp => absurd hp h.not_warming, fun hw => absurd h.no_stage hw⟩
    warming_busy := fun hp => absurd hp h.not_warming
    first_delay := fun hw => by cases h.no_stage.symm.trans hw
    second_delay := fun hw => by cases h.no_stage.symm.trans hw
    busy_why := fun hb => .inr (busy_why hb)
    pending_why }

/-- No settle delay runs where no command is in progress (R21 item 3). -/
theorem CoreInv.not_warming (h : CoreInv s) (hb : s.busy = false) : s.pstate ≠ .warming :=
  fun hp => by cases hb.symm.trans (h.warming_busy hp).1

theorem CoreInv.atRest (h : CoreInv s) (hb : s.busy = false) : CoreAtRest s :=
  { h with
    not_warming := h.not_warming hb
    no_stage := by_contra fun hw => h.not_warming hb (h.warming_iff_stage.2 hw) }

/-- The core between the acceptance of a command and its answer. -/
structure Executing (s : State) : Prop extends CoreAtRest s where
  in_progress : s.busy = true
  nothing_pending : s.pending = none
  no_response : s.rsp = none

/-- What the core is left in by a command: the invariant holds, and a command that was answered is over. -/
structure Executed (s : State) : Prop extends CoreInv s where
  answered_ends : ∀ r, s.rsp = some r → s.busy = false ∧ s.pending = none

theorem CoreAtRest.executed (h : CoreAtRest s) (hb : s.busy = false) (hp : s.pending = none) : Executed s where
  toCoreInv := h.coreInv (by simp [hb]) (by simp [hp])
  answered_ends _ _ := ⟨hb, hp⟩

theorem Inv.nothing_pending {w : CmdWord} (h : Inv s) (hb : s.busy = false) (hc : s.cmd = some w) : s.pending = none := by
  rcases hd : s.driver with _ | ws
  · obtain ⟨-, -, hp, -⟩ := (h.sequencer hd).offered w hc
    exact hp
  · have := h.core.pending_why
    simpa [hb, hd] using this

theorem Inv.accept {w : CmdWord} (h : Inv s) (hb : s.busy = false) (hc : s.cmd = some w) : Executing (s.accept w) :=
  { h.core.atRest hb with
    in_progress := rfl
    nothing_pending := h.nothing_pending hb hc
    no_response := rfl }

theorem Executing.respond (h : Executing s) (st : Status) (d : Data) : Executed (s.respond st d) :=
  CoreAtRest.executed { h with } rfl h.nothing_pending

/-! ### Collaborator calls and the settle gate (R44, R46, R111) -/

/-- A call that is no successful write of the power-control register leaves the newest one as it is. -/
theorem lastPowerWrite_call {c : Call} {p : Params}
    (hc : ∀ n, Event.powerWrite p ⟨c, (s.drawAt 0).reply, n⟩ = none) :
    lastPowerWrite p (s.call c).trace = lastPowerWrite p s.trace := by
  rw [State.call_trace, lastPowerWrite, hc]

theorem State.startedBefore_call {c : Call} {n a : Nat}
    (hc : ∀ m, Event.powerWrite s.params ⟨c, (s.drawAt 0).reply, m⟩ = none) (h : s.startedBefore n a) :
    (s.call c).startedBefore n a := by
  unfold State.startedBefore at h ⊢
  rwa [State.call_params, lastPowerWrite_call hc]

/-- A write that did not succeed is not counted. -/
theorem powerWrite_of_not_ok {p : Params} {c : Call} {r : Reply} {n : Nat} (h : r ≠ .ok) :
    Event.powerWrite p ⟨c, r, n⟩ = none := by
  cases c <;> simp [Event.powerWrite, h]

theorem CoreAtRest.call {c : Call} (h : CoreAtRest s)
    (hc : ∀ n, Event.powerWrite s.params ⟨c, (s.drawAt 0).reply, n⟩ = none) : CoreAtRest (s.call c) :=
  { h with
    settled := fun ha => State.startedBefore_call hc ((h.settled ha).mono (Nat.le_add_right _ _)) }

/-- A call that was answered, and wrote nothing, leaves the command executing. -/
theorem Executing.call {c : Call} (h : Executing s) (hr : (s.drawAt 0).reply ≠ .never)
    (hc : ∀ n, Event.powerWrite s.params ⟨c, (s.drawAt 0).reply, n⟩ = none) : Executing (s.call c) :=
  { h.toCoreAtRest.call hc with
    in_progress := h.in_progress
    nothing_pending := by rw [State.call_pending, if_neg hr, h.nothing_pending]
    no_response := h.no_response }

/-- A call that is never answered leaves the command in progress (R221). -/
theorem Executing.hang {c : Call} (h : Executing s) (hr : (s.drawAt 0).reply = .never) : Executed (s.call c) where
  toCoreInv := (h.toCoreAtRest.call fun _ => powerWrite_of_not_ok (by simp [hr])).coreInv
    (fun _ => by simp [hr]) fun _ => .inl h.in_progress
  answered_ends r hrsp := by cases h.no_response.symm.trans hrsp

/-- A call other than a register write, with what its answers lead to. -/
theorem Executing.ask {c : Call} {failed done : State → State} (h : Executing s)
    (hc : ∀ r n, Event.powerWrite s.params ⟨c, r, n⟩ = none)
    (hfailed : Executing (s.call c) → Executed (failed (s.call c)))
    (hdone : Executing (s.call c) → Executed (done (s.call c))) : Executed (s.ask c failed done) :=
  State.ask_cases (fun hr => hdone (h.call (by simp [hr]) (hc _))) (fun hr => hfailed (h.call (by simp [hr]) (hc _)))
    h.hang

/-! ### The commands keep the core's invariant (R101-R116) -/

theorem Executing.failInit {st : Status} (h : Executing s) (hctl : s.ctl = .uninit)
    (hst : st = .notReady ∨ st = .configFailed) : Executed (State.failInit st s) := by
  have hcache : s.cache = none := by simpa [hctl] using h.ready_iff_cache
  have hoff : s.pstate = .off := by_contra fun hp => by cases hctl.symm.trans (h.powered_ready hp)
  have hrest : CoreAtRest (State.failInit st s) := by
    constructor
    case fatal_code_set => rintro -; exact hst.imp (congrArg Status.code) (congrArg Status.code)
    all_goals simp [hcache, hoff, h.no_stage]
  exact hrest.executed rfl h.nothing_pending

theorem Executing.initDone (h : Executing s) (hctl : s.ctl = .uninit) (v : BitVec 16) : Executed (s.initDone v) := by
  have hcode : s.fatalCode = 0 := h.fatal_code_zero (by simp [hctl])
  have hrest : CoreAtRest (s.initDone v) := by constructor <;> simp [hcode, h.no_stage]
  exact hrest.executed rfl h.nothing_pending

/-- A call of `INIT`: the core stays `UNINIT` until the last one is answered. -/
theorem Executing.initCall {c : Call} {st : Status} {done : State → State} (h : Executing s) (hctl : s.ctl = .uninit)
    (hc : ∀ r n, Event.powerWrite s.params ⟨c, r, n⟩ = none) (hst : st = .notReady ∨ st = .configFailed)
    (hdone : Executing (s.call c) → (s.call c).ctl = .uninit → Executed (done (s.call c))) :
    Executed (s.ask c (State.failInit st) done) :=
  h.ask hc (fun h => h.failInit hctl hst) fun h => hdone h hctl

theorem Executing.initBody (h : Executing s) (hctl : s.ctl = .uninit) : Executed s.initBody := by
  unfold State.initBody State.readPower
  refine h.initCall hctl (fun _ _ => rfl) (.inl rfl) fun h hctl => ?_
  refine h.initCall hctl (fun _ _ => rfl) (.inr rfl) fun h hctl => ?_
  refine h.initCall hctl (fun _ _ => rfl) (.inr rfl) fun h hctl => ?_
  exact h.initCall hctl (fun _ _ => rfl) (.inr rfl) fun h hctl => h.initDone hctl _

theorem Executing.sampleBody (h : Executing s) : Executed s.sampleBody :=
  h.ask (fun _ _ => rfl) (fun h => h.respond _ _) fun h =>
  h.ask (fun _ _ => rfl) (fun h => h.respond _ _) fun h => h.respond _ _

/-- The state after a successful write of the power-control register. -/
def State.wrote (s : State) (v : BitVec 16) : State :=
  (s.call (.busWrite s.params.pwrRegAddr v)).sensorTakes v

theorem State.writePower_cases {P : State → Prop} {v : BitVec 16} {failed done : State → State}
    (ok : (s.drawAt 0).reply = .ok → P (done (s.wrote v)))
    (fail : (s.drawAt 0).reply = .fail → P (failed (s.call (.busWrite s.params.pwrRegAddr v))))
    (never : (s.drawAt 0).reply = .never → P (s.call (.busWrite s.params.pwrRegAddr v))) :
    P (s.writePower v failed done) :=
  State.ask_cases ok fail never

/-- A successful write counts from its acknowledgement on. -/
theorem lastPowerWrite_wrote {v : BitVec 16} (hr : (s.drawAt 0).reply = .ok) :
    lastPowerWrite s.params (s.wrote v).trace = some (v, (s.wrote v).now) := by
  simp [State.wrote, lastPowerWrite, Event.powerWrite, hr]

theorem Executing.powerDown {v : BitVec 16} (h : Executing s) (hr : (s.drawAt 0).reply = .ok) (hctl : s.ctl = .ready) :
    Executed ((s.wrote v).powerDown v) := by
  have hcode : s.fatalCode = 0 := h.fatal_code_zero (by simp [hctl])
  have hrest : CoreAtRest ((s.wrote v).powerDown v) := by
    constructor <;> simp [State.wrote, hctl, hcode, h.no_stage]
  exact hrest.executed rfl (by simp [State.wrote, hr, h.nothing_pending])

theorem Executing.startWarmUp {v : BitVec 16} (h : Executing s) (hr : (s.drawAt 0).reply = .ok) (hctl : s.ctl = .ready)
    (hcur : s.cur = encode .activate) (hv : v &&& s.params.sdMask = 0) : Executed ((s.wrote v).startWarmUp v) := by
  have hcode : s.fatalCode = 0 := h.fatal_code_zero (by simp [hctl])
  have hstart : ((s.wrote v).startWarmUp v).startedBefore s.params.tStartUs ((s.wrote v).now + s.params.tStartUs) :=
    ⟨v, _, lastPowerWrite_wrote hr, hv, le_rfl⟩
  refine ⟨?_, by simp [State.wrote, h.no_response]⟩
  constructor
  case first_delay => exact fun _ => hstart
  all_goals simp [State.wrote, hctl, hcode, hcur, hv, hr, h.nothing_pending, h.in_progress]

theorem bit_cleared (c m : BitVec 16) : c &&& ~~~m &&& m = 0 := by
  rw [BitVec.and_assoc, BitVec.and_comm (~~~m), BitVec.and_not_self]; simp

/-- Whatever a command does, the core keeps its invariant. -/
theorem Executing.executed {i : Instr} (h : Executing s) (hcur : i = .activate → s.cur = encode i)
    (ht : exec i s = .next t) : Executed t := by
  refine exec_ind (P := Executed) ?answer ?refuse ?init ?power ?sample ?convert t ht
  case answer => intro d _; exact h.respond _ _
  case refuse => intro st _ _; exact h.respond _ _
  case init => intro _ hctl; exact h.initBody hctl
  case power =>
    intro c v done hctl _ hdone
    refine State.writePower_cases (fun hr => ?_)
      (fun hr => (h.call (by simp [hr]) fun _ => powerWrite_of_not_ok (by simp [hr])).respond _ _) h.hang
    obtain ⟨rfl, rfl, rfl⟩ | ⟨-, rfl, rfl⟩ := hdone
    · exact h.startWarmUp hr hctl (hcur rfl) (bit_cleared _ _)
    · exact h.powerDown hr hctl
  case sample => intro _ _ _; exact h.sampleBody
  case convert => intro _; exact h.ask (fun _ _ => rfl) (fun h => h.respond _ _) fun h => h.respond _ _

/-- A command in progress keeps the core's invariant: the settle delays last as long as they must (R109-R111). -/
theorem CoreInv.inProgress (h : CoreInv s) : CoreInv s.inProgress := by
  refine inProgress_ind (P := CoreInv) h (fun hp hw hd => ?_) (fun hp hw hd => ?_)
  · have hwarm : s.pstate = .warming := h.warming_iff_stage.2 (by simp [hw])
    have hsecond : s.startedBefore (settleUs s.params) (s.now + s.params.tIntUs + Config.tMarginUs) := by
      obtain ⟨v, t₀, hlast, hclear, ht⟩ := h.first_delay hw
      exact ⟨v, t₀, hlast, hclear, by unfold settleUs; omega⟩
    exact { h with
      warming_iff_stage := by simp [hwarm]
      first_delay := by simp
      second_delay := fun _ => hsecond
      busy_why := by simp }
  · have hwarm : s.pstate = .warming := h.warming_iff_stage.2 (by simp [hw])
    have hctl : s.ctl = .ready := h.powered_ready (by simp [hwarm])
    exact { h with
      powered_ready := fun _ => hctl
      warming_iff_stage := by simp
      warming_busy := by simp
      powered_bit_clear := fun _ => h.powered_bit_clear (by simp [hwarm])
      first_delay := by simp
      second_delay := by simp
      settled := fun _ => (h.second_delay hw).mono hd
      busy_why := by simp
      pending_why := by simp [hp] }

end Sys2Proof.Machine
end

section
/-! What the pure commands' answers carry, and the record they make (R84, R87, R135). -/

namespace Sys2Proof.Machine

variable {s t : State}

/-! ### What the pure commands' answers carry (R84, R87, R135) -/

/-- A percentage is at most 100: the clamp of R134. -/
theorem estPct_toNat_le (v : BitVec 32) : (estPct v).toNat ≤ 100 := by
  have h0 : 0 ≤ min (max (curve v.toInt) 0) 100 := by omega
  have h100 : min (max (curve v.toInt) 0) 100 ≤ 100 := by omega
  unfold estPct
  generalize min (max (curve v.toInt) 0) 100 = x at h0 h100
  rw [BitVec.toNat_ofInt]
  omega

theorem isBatteryByte_encBatt {unknown : Bool} {percent : Byte} (h : (Instr.encBatt unknown percent).wellFormed = true) :
    isBatteryByte (encBatt unknown percent) = true := by
  cases unknown with
  | true => rfl
  | false =>
    have hp : percent.toNat ≤ 100 := by simpa [Instr.wellFormed] using h
    simp [encBatt, isBatteryByte, hp]

/-- A byte of a built record (R67), the parts of R87 put together at their own widths. -/
theorem recordByteOf_buildRec (p : Params) (l : BitVec 24) (b : Byte) (i : Nat) :
    recordByteOf (buildRec p l b) i = BitVec.extractLsb' (n := 8 + 8 + 24 + 8 + 8 + 16) (8 * i) 8
      (b ++ Config.battMarker ++ l ++ Config.luxMarker ++ Config.deviceInfo ++ p.serviceId) := rfl

/-- A record built and stored by `ENCODING` has the header, the markers and a battery byte (R87, R21 item 8). -/
theorem RecordInv.writeRecord_buildRec (h : RecordInv s) (l : BitVec 24) {b : Byte} (hb : isBatteryByte b = true) :
    RecordInv (s.writeRecord (buildRec s.params l b)) := by
  constructor
  case canonical => exact State.wf_writeRecord h.canonical _
  all_goals
    rw [State.recordByte_writeRecord h.canonical, recordByteOf_buildRec]
    simp (disch := decide) only [BitVec.extractLsb'_append_eq_of_le, BitVec.extractLsb'_append_eq_of_add_le]
  case id_low => rfl
  case id_high => rfl
  case battery => simpa using hb
  all_goals decide

end Sys2Proof.Machine
end

section
/-! The sequencer's commands: what it issues, and what it finds answered (R150-R165). -/

namespace Sys2Proof.Machine

variable {s t : State}

/-! ### What a command answers where the sequencer issues it (R101-R116, R130, R160) -/

/-- The sequencer may issue the command in this state: no answer of the third class of R181 can come (R85, R105, R116). -/
def State.mayIssue (s : State) : Instr → Prop
  | .init => s.ctl = .uninit
  | .activate => s.ctl = .ready
  | .deactivate => s.ctl = .ready
  | .sampleLux => s.ctl = .ready ∧ s.pstate = .active
  | .encBatt unknown percent => (Instr.encBatt unknown percent).wellFormed = true
  | .encLux _ => True
  | .buildRec _ _ => True
  | .readMv => True
  | .estPct _ => True

/-- The answers to a command issued where it may be, with the lifecycle and the power state beside them. -/
def Response.answers (r : Response) (t : State) : Instr → Prop
  | .init => (r.status = .ok ∧ t.ctl = .ready) ∨ ((r.status = .notReady ∨ r.status = .configFailed) ∧ t.ctl = .fatal)
  | .activate => (r.status = .ok ∧ t.pstate = .active) ∨ r.status = .writeFailed
  | .deactivate => r.status = .ok ∨ r.status = .writeFailed
  | .sampleLux => r.status = .ok ∨ r.status = .fetchFailed ∨ r.status = .readFailed
  | .encLux _ => r.status = .ok
  | .encBatt _ _ => r.status = .ok ∧ isBatteryByte (dataByte r.data) = true
  | .buildRec l b => r.status = .ok ∧ r.data = buildRec t.params l b
  | .readMv => r.status = .ok ∨ r.status = .adcFailed
  | .estPct _ => r.status = .ok ∧ (dataByte r.data).toNat ≤ 100

/-- What a command accepted in `s` leaves for the sequencer: a fitting answer, and the registers its phases rely on. -/
structure Served (s : State) (i : Instr) (t : State) : Prop where
  answered : ∀ r, t.rsp = some r → r.answers t i
  unanswered : t.rsp = none → t.ctl = s.ctl
  ready : s.ctl = .ready → t.ctl = .ready
  warming : t.pstate = .warming → s.pstate = .warming ∨ i = .activate
  sampling : i = .sampleLux → t.pstate = s.pstate

/-- A command that is answered, or hangs, with the lifecycle and the power state as they were. -/
theorem Served.of_kept {i : Instr} (hctl : t.ctl = s.ctl) (hpower : t.pstate = s.pstate)
    (answered : ∀ r, t.rsp = some r → r.answers t i) : Served s i t where
  answered
  unanswered _ := hctl
  ready h := hctl.trans h
  warming h := .inl (hpower.symm.trans h)
  sampling _ := hpower

theorem Served.hang {i : Instr} (hctl : t.ctl = s.ctl) (hpower : t.pstate = s.pstate) (hr : t.rsp = none) :
    Served s i t :=
  Served.of_kept hctl hpower (by simp [hr])

theorem Served.respond {i : Instr} {st : Status} {d : Data} (hctl : t.ctl = s.ctl) (hpower : t.pstate = s.pstate)
    (ha : Response.answers ⟨st, d⟩ (t.respond st d) i) : Served s i (t.respond st d) :=
  Served.of_kept hctl hpower fun r hr => by
    rw [State.respond_rsp] at hr; cases hr; exact ha

/-- `INIT` moves the lifecycle as its answer says (R101-R104). -/
theorem Executing.served_init (h : Executing s) (hctl : s.ctl = .uninit) : Served s .init s.initBody := by
  refine initBody_ind (P := Served s .init) ?hang ?notReady ?badConfig ?done
  case hang =>
    intro k _ _ _
    exact Served.hang (State.initCalls_ctl k) (State.initCalls_pstate k) (by rw [State.initCalls_rsp, h.no_response])
  case notReady => intro _; constructor <;> simp [Response.answers, hctl]
  case badConfig => intros; constructor <;> simp [Response.answers, hctl]
  case done => intro _; constructor <;> simp [Response.answers]

theorem exec_init (h : s.ctl = .uninit) : exec .init s = .next s.initBody := by
  simp only [exec, execInit, if_pos h]

theorem exec_sampleLux (hctl : s.ctl = .ready) (hpower : s.pstate = .active) :
    exec .sampleLux s = .next s.sampleBody := by
  simp only [exec, execSampleLux, if_pos hctl, if_pos hpower]

theorem exec_activate {c : BitVec 16} (h : s.readyCache = some c) :
    exec .activate s = .next (s.writePower (c &&& ~~~s.params.sdMask) (fun t => t.reject .writeFailed)
      (State.startWarmUp (c &&& ~~~s.params.sdMask))) := by
  simp only [exec, execActivate, h]

theorem exec_deactivate {c : BitVec 16} (h : s.readyCache = some c) :
    exec .deactivate s = .next (s.writePower (c ||| s.params.sdMask) (fun t => t.reject .writeFailed)
      (State.powerDown (c ||| s.params.sdMask))) := by
  simp only [exec, execDeactivate, h]

theorem CoreAtRest.readyCache (h : CoreAtRest s) (hctl : s.ctl = .ready) : ∃ c, s.readyCache = some c := by
  obtain ⟨c, hc⟩ := Option.isSome_iff_exists.1 (h.ready_iff_cache.1 hctl)
  exact ⟨c, by simp [State.readyCache, hctl, hc]⟩

/-- `ENC_BATT` with operands the caller's contract allows (R83, R84). -/
theorem exec_encBatt_wellFormed {unknown : Bool} {percent : Byte}
    (h : (Instr.encBatt unknown percent).wellFormed = true) :
    exec (.encBatt unknown percent) s = .next (s.respond .ok (dataOf (encBatt unknown percent))) := by
  have hp : (!unknown && decide (100 < percent.toNat)) = false := by
    cases unknown with
    | true => rfl
    | false => simpa [Instr.wellFormed] using h
  simp [exec, execEncBatt, hp]

theorem Executing.served {i : Instr} (h : Executing s) (hi : s.mayIssue i) (ht : exec i s = .next t) : Served s i t := by
  cases i with
  | init =>
    rw [exec_init hi] at ht
    cases ht
    exact h.served_init hi
  | activate =>
    obtain ⟨c, hc⟩ := h.readyCache hi
    rw [exec_activate hc] at ht
    cases ht
    refine State.writePower_cases (fun _ => ?_) (fun _ => Served.respond rfl rfl (.inr rfl))
      (fun _ => Served.hang rfl rfl h.no_response)
    constructor <;> simp [State.wrote, h.no_response]
  | deactivate =>
    obtain ⟨c, hc⟩ := h.readyCache hi
    rw [exec_deactivate hc] at ht
    cases ht
    refine State.writePower_cases (fun _ => ?_) (fun _ => Served.respond rfl rfl (.inr rfl))
      (fun _ => Served.hang rfl rfl h.no_response)
    constructor <;> simp [State.wrote, Response.answers]
  | sampleLux =>
    obtain ⟨hctl, hpower⟩ := hi
    rw [exec_sampleLux hctl hpower] at ht
    cases ht
    refine State.ask_cases (fun _ => ?_) (fun _ => Served.respond rfl rfl (.inr (.inl rfl)))
      (fun _ => Served.hang rfl rfl h.no_response)
    exact State.ask_cases (fun _ => Served.respond (by simp) (by simp) (.inl rfl))
      (fun _ => Served.respond (by simp) (by simp) (.inr (.inr rfl)))
      (fun _ => Served.hang (by simp) (by simp) (by simp [h.no_response]))
  | readMv =>
    cases ht
    exact State.ask_cases (fun _ => Served.respond rfl rfl (.inl rfl)) (fun _ => Served.respond rfl rfl (.inr rfl))
      (fun _ => Served.hang rfl rfl h.no_response)
  | encLux m => cases ht; exact Served.respond rfl rfl rfl
  | encBatt unknown percent =>
    rw [exec_encBatt_wellFormed hi] at ht
    cases ht
    exact Served.respond rfl rfl ⟨rfl, by simpa using isBatteryByte_encBatt hi⟩
  | buildRec l b => cases ht; exact Served.respond rfl rfl ⟨rfl, rfl⟩
  | estPct v => cases ht; exact Served.respond rfl rfl ⟨rfl, by simpa using estPct_toNat_le v⟩

/-! ### The sequencer keeps its invariant (R150-R165) -/

theorem SeqInv.ready_of_phase {ph : Phase} (h : SeqInv s) (hph : s.phase = ph) (hrun : ph ≠ .boot ∧ ph ≠ .halted) :
    s.ctl = .ready :=
  h.running (hph ▸ hrun.1) (hph ▸ hrun.2)

theorem SeqInv.expected {r : Response} (h : SeqInv s) (hr : s.rsp = some r) : expectedResponse s r := by
  obtain ⟨-, -, hexp⟩ := h.answered r hr
  exact hexp

/-- The command each phase, and each line of `ENCODING`, has for the port. -/
theorem State.request_cases {P : Instr → Prop}
    (boot : s.phase = .boot → P .init)
    (activating : s.phase = .activating → P .activate)
    (samplingLux : s.phase = .samplingLux → P .sampleLux)
    (samplingBattery : s.phase = .samplingBattery → P .readMv)
    (lux : ∀ m, s.phase = .encoding → s.enc = .lux → P (.encLux m))
    (percent : ∀ l v, s.phase = .encoding → s.enc = .percent l → P (.estPct v))
    (battery : ∀ l p, s.phase = .encoding → s.enc = .battery l (some p) → P (.encBatt false p))
    (unknown : ∀ l, s.phase = .encoding → s.enc = .battery l none → P (.encBatt true 0))
    (build : ∀ l b, s.phase = .encoding → s.enc = .build l b → P (.buildRec l b))
    (deactivating : s.phase = .deactivating → P .deactivate) : ∀ i, s.request = some i → P i := by
  intro i hi
  unfold State.request at hi
  split at hi
  next hph => cases hi; exact boot hph
  next => cases hi
  next hph => cases hi; exact activating hph
  next hph => cases hi; exact samplingLux hph
  next hph => cases hi; exact samplingBattery hph
  next hph =>
    split at hi
    next he =>
      obtain ⟨m, -, rfl⟩ := Option.map_eq_some_iff.1 hi
      exact lux m hph he
    next l he =>
      obtain ⟨v, -, rfl⟩ := Option.map_eq_some_iff.1 hi
      exact percent l v hph he
    next l p he => cases hi; exact battery l p hph he
    next l he => cases hi; exact unknown l hph he
    next l b he => cases hi; exact build l b hph he
  next => cases hi
  next hph => cases hi; exact deactivating hph
  next => cases hi
  next => cases hi

/-- The sequencer issues only what its phase allows. -/
theorem SeqInv.mayIssue {i : Instr} (h : SeqInv s) (hr : s.rsp = none) (hi : s.request = some i) : s.mayIssue i := by
  refine State.request_cases (P := s.mayIssue) ?boot ?activating ?samplingLux ?samplingBattery ?lux ?percent ?battery
    ?unknown ?build ?deactivating i hi
  case boot => intro hph; exact h.boot hph hr
  case activating => intro hph; exact h.ready_of_phase hph (by decide)
  case samplingLux => intro hph; exact ⟨h.ready_of_phase hph (by decide), h.sampling hph⟩
  case samplingBattery => intro _; trivial
  case lux => intros; trivial
  case percent => intros; trivial
  case battery =>
    intro l p hph he
    simpa [State.mayIssue, Instr.wellFormed, EncStep.fits, he] using h.locals hph
  case unknown => intros; rfl
  case build => intros; trivial
  case deactivating => intro hph; exact h.ready_of_phase hph (by decide)

/-- A fitting answer to the command of a phase is one the phase expects. -/
theorem expectedResponse_of_answers {i : Instr} {r : Response} (hi : s.request = some i) (ha : r.answers s i) :
    expectedResponse s r := by
  refine State.request_cases (P := fun i => r.answers s i → expectedResponse s r) ?boot ?activating ?samplingLux
    ?samplingBattery ?lux ?percent ?battery ?unknown ?build ?deactivating i hi ha
  case lux =>
    intro m hph he ha
    simp only [expectedResponse, hph, encResponse, he]
    exact ⟨ha, trivial⟩
  case percent => intro l v hph he ha; simpa only [expectedResponse, hph, encResponse, he, Response.answers] using ha
  case battery => intro l p hph he ha; simpa only [expectedResponse, hph, encResponse, he, Response.answers] using ha
  case unknown => intro l hph he ha; simpa only [expectedResponse, hph, encResponse, he, Response.answers] using ha
  case build => intro l b hph he ha; simpa only [expectedResponse, hph, encResponse, he, Response.answers] using ha
  all_goals
    intro hph ha
    simpa only [expectedResponse, hph, Response.answers] using ha

/-- `ACTIVATE` is the command of `ACTIVATING` alone. -/
theorem State.phase_of_request_activate (h : s.request = some .activate) : s.phase = .activating := by
  refine State.request_cases (P := fun i => i = .activate → s.phase = .activating) ?boot ?activating ?samplingLux
    ?samplingBattery ?lux ?percent ?battery ?unknown ?build ?deactivating _ h rfl
  case activating => intro hph _; exact hph
  all_goals
    intros
    contradiction

/-- A command of the sequencer leaves the port and the registers as its phase expects them. -/
theorem SeqInv.command {i : Instr} (h : SeqInv s) (hf : s.ctl ≠ .fatal) (hr : s.rsp = none) (hi : s.request = some i)
    (hexec : Executing (s.accept (encode i))) (ht : exec i (s.accept (encode i)) = .next t) : SeqInv t := by
  have hserved : Served (s.accept (encode i)) i t := hexec.served (h.mayIssue hr hi) ht
  have hends := (hexec.executed (fun hact => by rw [hact]; rfl) ht).answered_ends
  obtain ⟨hphase, henc, hlux, hmv, -, -, hcmd, -, -, -, -⟩ := SequencerView.mk.inj (exec_sequencerView ht)
  simp only [State.accept_phase, State.accept_enc, State.accept_sLux, State.accept_sMv, State.accept_cmd]
    at hphase henc hlux hmv hcmd
  have hreq : t.request = some i := by
    rw [← hi, State.request, State.request, hphase, henc, hlux, hmv]
  constructor
  case boot => intro hb hnone; exact (hserved.unanswered hnone).trans (h.boot (hphase ▸ hb) hr)
  case running => intro hb hh; exact hserved.ready (h.running (hphase ▸ hb) (hphase ▸ hh))
  case halted => intro hh; exact absurd (h.halted (hphase ▸ hh)) hf
  case offered => simp [hcmd]
  case answered =>
    intro r hrsp
    obtain ⟨hbusy, hpending⟩ := hends r hrsp
    exact ⟨hbusy, hpending, expectedResponse_of_answers hreq (hserved.answered r hrsp)⟩
  case warming =>
    intro hwarm
    obtain hwarm | rfl := hserved.warming hwarm
    · exact absurd hwarm hexec.not_warming
    · exact State.phase_of_request_activate hreq
  case sampling =>
    intro hph
    have hact : i = .sampleLux := by simpa [State.request, hph] using hreq.symm
    exact (hserved.sampling hact).trans (h.sampling (hphase ▸ hph))
  case locals => intro hph; rw [henc]; exact h.locals (hphase ▸ hph)

/-- The port between two exchanges of the sequencer: nothing offered, no response; its phase fits the core's registers. -/
theorem SeqInv.of_quiet_port (hcmd : s.cmd = none) (hrsp : s.rsp = none) (hw : s.pstate ≠ .warming)
    (boot : s.phase ≠ .boot) (running : s.phase ≠ .halted → s.ctl = .ready)
    (halted : s.phase = .halted → s.ctl = .fatal) (sampling : s.phase = .samplingLux → s.pstate = .active)
    (locals : s.phase = .encoding → s.enc.fits = true) : SeqInv s where
  boot hb := absurd hb boot
  running _ := running
  halted := halted
  offered w hc := by cases hcmd.symm.trans hc
  answered r hr := by cases hrsp.symm.trans hr
  warming h := absurd h hw
  sampling := sampling
  locals := locals

end Sys2Proof.Machine
end

section
/-! The invariant over every step (R21). -/

namespace Sys2Proof.Machine

variable {s t : State}

/-- A phase is entered with the lifecycle it runs in: `FATAL` for `HALTED` (R165), `READY` for the others. -/
theorem inv_enter {ph : Phase} (core : CoreInv s) (record : RecordInv s) (hb : s.busy = false) (hcmd : s.cmd = none)
    (boot : ph ≠ .boot) (hctl : s.ctl = if ph = .halted then .fatal else .ready)
    (sampling : ph = .samplingLux → s.pstate = .active) (locals : ph = .encoding → s.enc.fits = true) :
    Inv (s.enter ph) where
  core := { core with }
  record := record.congr rfl rfl
  sequencer _ := by
    refine SeqInv.of_quiet_port hcmd rfl (core.not_warming hb) boot (fun hph => ?_) (fun hph => ?_) sampling locals
    · exact hctl.trans (if_neg hph)
    · exact hctl.trans (if_pos hph)

/-- A line of `ENCODING` leaves its locals as the next one needs them (R160). -/
theorem Inv.enterEnc {e : EncStep} (h : Inv s) (turn : s.sequencerTurn) (hph : s.phase = .encoding)
    (he : e.fits = true) : Inv (s.enterEnc e) where
  core := { h.core with }
  record := h.record.congr rfl rfl
  sequencer hd := by
    obtain ⟨-, hb, hcmd, -, -⟩ := turn
    exact SeqInv.of_quiet_port hcmd rfl (h.core.not_warming hb) (by simp [hph])
      (fun _ => (h.sequencer hd).ready_of_phase hph (by decide)) (by simp [hph]) (by simp [hph]) (fun _ => he)

/-- The sequencer offers its phase's command (R150). -/
theorem Inv.issue {i : Instr} (h : Inv s) (turn : s.sequencerTurn) (hr : s.rsp = none) (hi : s.request = some i) :
    Inv (s.issue i) where
  core := { h.core with }
  record := h.record.congr rfl rfl
  sequencer hd := by
    obtain ⟨-, hb, -, hp, -⟩ := turn
    exact { h.sequencer hd with
      boot := fun hph _ => (h.sequencer hd).boot hph hr
      offered := fun w hw => ⟨hb, rfl, hp, i, hi, (Option.some.inj hw).symm⟩
      answered := by simp }

/-- `Publish` keeps the invariant, whether it is answered or not (R162, R221). -/
theorem Inv.publish (h : Inv s) (turn : s.sequencerTurn) (hph : s.phase = .publishing) :
    Inv (s.call (.publish s.recordBytes)) ∧ Inv (State.enter (s.call (.publish s.recordBytes)) .deactivating) := by
  obtain ⟨-, hb, hcmd, -, hd⟩ := turn
  have hctl : s.ctl = .ready := (h.sequencer hd).ready_of_phase hph (by decide)
  have hcore : CoreInv (s.call (.publish s.recordBytes)) :=
    ((h.core.atRest hb).call fun _ => rfl).coreInv (by simp [hb]) fun _ => .inr hd
  have hrecord : RecordInv (s.call (.publish s.recordBytes)) := h.record.congr rfl rfl
  have hrsp : s.rsp = none := by
    rcases hr : s.rsp with _ | r
    · rfl
    · have hexp := (h.sequencer hd).expected hr
      simp [expectedResponse, hph] at hexp
  refine ⟨⟨hcore, hrecord, fun _ => ?_⟩, inv_enter hcore hrecord hb hcmd (by simp) hctl (by simp) (by simp)⟩
  exact SeqInv.of_quiet_port hcmd hrsp (h.core.not_warming hb) (by simp [hph]) (fun _ => hctl) (by simp [hph])
    (by simp [hph]) (by simp [hph])

/-- A move of the sequencer keeps the invariant. -/
theorem Inv.seqStep (h : Inv s) (turn : s.sequencerTurn) (ht : seqStep s = .next t) : Inv t := by
  have ⟨_, hb, hcmd, _, hd⟩ := turn
  have hseq := h.sequencer hd
  have henc {r : Response} (hph : s.phase = .encoding) (hr : s.rsp = some r) : encResponse s r := by
    have hexp := hseq.expected hr
    simp only [expectedResponse, hph] at hexp
    exact hexp.2
  refine seqStep_ind (P := Inv) ?issue ?boot ?idle ?activating ?samplingLux ?samplingBattery ?keepLux ?luxBytes
    ?noPercent ?percent ?battery ?store ?publish ?sleep ?sleeping t ht
  case issue => intro i hi hr; exact h.issue turn hr hi
  case boot =>
    intro r ph hph hr hs
    have hexp := hseq.expected hr
    simp only [expectedResponse, hph] at hexp
    obtain ⟨hs, rfl⟩ | ⟨hs, rfl⟩ := hs
    · have hctl : s.ctl = .ready := by simpa [hs] using hexp
      exact inv_enter h.core h.record hb hcmd (by simp) hctl (by simp) (by simp)
    · have hctl : s.ctl = .fatal := by rcases hs with hs | hs <;> simpa [hs] using hexp
      exact inv_enter h.core h.record hb hcmd (by simp) hctl (by simp) (by simp)
  case idle =>
    intro hph
    exact inv_enter { h.core with } (h.record.congr rfl rfl) hb hcmd (by simp) (hseq.ready_of_phase hph (by decide))
      (by simp) (by simp)
  case activating =>
    intro r ph hph hr hs
    have hexp := hseq.expected hr
    simp only [expectedResponse, hph] at hexp
    obtain ⟨hs, rfl⟩ | ⟨hs, rfl⟩ := hs
    · have hactive : s.pstate = .active := by simpa [hs] using hexp
      exact inv_enter h.core h.record hb hcmd (by simp) (hseq.ready_of_phase hph (by decide)) (fun _ => hactive) (by simp)
    · exact inv_enter h.core h.record hb hcmd (by simp) (hseq.ready_of_phase hph (by decide)) (by simp) (by simp)
  case samplingLux =>
    intro x hph
    exact inv_enter { h.core with } (h.record.congr rfl rfl) hb hcmd (by simp) (hseq.ready_of_phase hph (by decide))
      (by simp) (by simp)
  case samplingBattery =>
    intro x hph
    exact inv_enter { h.core with } (h.record.congr rfl rfl) hb hcmd (by simp) (hseq.ready_of_phase hph (by decide))
      (by simp) (fun _ => rfl)
  case keepLux => intro hph _ _; exact h.enterEnc turn hph rfl
  case luxBytes => intro m r hph _ _ _ _; exact h.enterEnc turn hph rfl
  case noPercent => intro l hph _ _; exact h.enterEnc turn hph rfl
  case percent =>
    intro l v r hph he _ hr _
    have hle := henc hph hr
    simp only [encResponse, he] at hle
    exact h.enterEnc turn hph (by simpa [EncStep.fits] using hle)
  case battery =>
    intro l p r hph he hr _
    have hbyte := henc hph hr
    simp only [encResponse, he] at hbyte
    exact h.enterEnc turn hph hbyte
  case store =>
    intro l b r hph he hr _
    have hdata := henc hph hr
    simp only [encResponse, he] at hdata
    have hfits : isBatteryByte b = true := by simpa [EncStep.fits, he] using hseq.locals hph
    rw [hdata]
    exact inv_enter { h.core with } ((h.record.writeRecord_buildRec l hfits).congr rfl rfl) hb hcmd (by simp)
      (hseq.ready_of_phase hph (by decide)) (by simp) (by simp)
  case publish => exact h.publish turn
  case sleep =>
    intro r hph _ _
    exact inv_enter { h.core with } (h.record.congr rfl rfl) hb hcmd (by simp) (hseq.ready_of_phase hph (by decide))
      (by simp) (by simp)
  case sleeping =>
    intro hph
    exact ⟨fun _ => inv_enter h.core h.record hb hcmd (by simp) (hseq.ready_of_phase hph (by decide)) (by simp)
      (by simp), fun _ => h⟩

/-! ### Every step keeps the invariant -/

theorem Inv.inProgress (h : Inv s) (hb : s.busy = true) : Inv s.inProgress := by
  have hcore := h.core.inProgress
  revert hcore
  refine inProgress_ind (P := fun t => CoreInv t → Inv t) (fun _ => h) (fun hp hw hd hcore => ?_)
    (fun hp hw hd hcore => ?_)
  · exact ⟨hcore, h.record.congr rfl rfl, fun hd => { h.sequencer hd with }⟩
  · refine ⟨hcore, h.record.congr rfl rfl, fun hd => ?_⟩
    have hwarm : s.pstate = .warming := h.core.warming_iff_stage.2 (by simp [hw])
    have hph := (h.sequencer hd).warming hwarm
    have hcmd : s.cmd = none := by
      rcases hc : s.cmd with _ | w
      · rfl
      · cases hb.symm.trans ((h.sequencer hd).offered w hc).1
    exact { h.sequencer hd with
      boot := by simp [hph]
      offered := by simp [hcmd]
      answered := by simp [expectedResponse, hph, hp]
      warming := by simp
      sampling := by simp }

/-- Accepting a command and carrying it out keeps the invariant. -/
theorem Inv.command {w : CmdWord} {i : Instr} (h : Inv s) (hb : s.busy = false) (hf : s.ctl ≠ .fatal)
    (hc : s.cmd = some w) (hdec : decode w = .ok i) (ht : exec i (s.accept w) = .next t) : Inv t := by
  have hexec := h.accept hb hc
  have hcur : i = .activate → w = encode i := by rintro rfl; exact eq_encode_of_decode_activate hdec
  have hview := exec_sequencerView ht
  refine ⟨(hexec.executed hcur ht).toCoreInv, ?_, fun hd => ?_⟩
  · exact h.record.congr (congrArg SequencerView.params hview) (congrArg SequencerView.record hview)
  · have hseq := h.sequencer ((congrArg SequencerView.driver hview).symm.trans hd)
    obtain ⟨-, hr, -, j, hj, rfl⟩ := hseq.offered w hc
    rw [decode_encode] at hdec
    cases hdec
    exact hseq.command hf hr hj hexec ht

theorem Inv.illegal {w : CmdWord} {e : Illegal} (h : Inv s) (hb : s.busy = false) (hc : s.cmd = some w)
    (hdec : decode w = .error e) : Inv (s.accept w).rejectIllegal := by
  refine ⟨((h.accept hb hc).respond _ _).toCoreInv, h.record.congr rfl rfl, fun hd => ?_⟩
  obtain ⟨-, -, -, i, -, rfl⟩ := (h.sequencer hd).offered w hc
  cases (decode_encode i).symm.trans hdec

/-- Settles O58: each of the cases of a step keeps the invariant, after the step's time has kept it. -/
theorem everyStepKeepsInvariant : Obligations.EveryStepKeepsInvariant := by
  intro s t h ht
  have h' := h.tick
  refine step_ind (P := Inv) ?reset ?busy ?illegal ?command ?waiting ?hostOffers ?sequencer t ht
  case reset => intro _; exact inv_restart _
  case busy => intro _ hb; exact h'.inProgress hb
  case illegal => intro w e _ hb _ hc hdec; exact h'.illegal hb hc hdec
  case command => intro w i t _ hb hf hc hdec ht; exact h'.command hb hf hc hdec ht
  case waiting => intro _ _ _; exact h'
  case hostOffers =>
    intro w ws _ hb _ hd
    have hp : s.pending.isSome = false := by simpa [hb, hd] using h.core.pending_why
    refine ⟨{ h'.core with pending_why := ?_ }, h'.record.congr rfl rfl, ?_⟩
    · simp [hp]
    · simp
  case sequencer => intro t turn ht; exact h'.seqStep turn ht

end Sys2Proof.Machine
end

section
/-! What a step keeps: time and parameters (R20, R212), the port (R19, R60), the record (R16, R50), the cache (R13); and the pure
commands (R22, R68). -/

namespace Sys2Proof.Machine

variable {s t : State}

/-! ### Time and parameters (R20, R212) -/

theorem State.now_le_ask {c : Call} {failed done : State → State}
    (hfailed : ∀ t, t.now ≤ (failed t).now) (hdone : ∀ t, t.now ≤ (done t).now) :
    s.now ≤ (s.ask c failed done).now :=
  have hcall : s.now ≤ (s.call c).now := Nat.le_add_right _ _
  State.ask_cases (P := fun t => s.now ≤ t.now) (fun _ => hcall.trans (hdone _)) (fun _ => hcall.trans (hfailed _))
    (fun _ => hcall)

theorem exec_now_le {i : Instr} (h : exec i s = .next t) : s.now ≤ t.now := by
  refine exec_ind (P := fun t => s.now ≤ t.now) ?answer ?refuse ?init ?power ?sample ?convert t h
  case answer => intros; exact le_rfl
  case refuse => intros; exact le_rfl
  case init =>
    intros
    refine initBody_ind (P := fun t => s.now ≤ t.now) ?_ ?_ ?_ ?_
    all_goals intros; exact State.now_le_initCalls _
  case power =>
    rintro c v done - - (⟨-, -, rfl⟩ | ⟨-, -, rfl⟩) <;>
      exact State.now_le_ask (fun _ => le_rfl) fun _ => le_rfl
  case sample =>
    intros
    exact State.now_le_ask (fun _ => le_rfl) fun _ => State.now_le_ask (fun _ => le_rfl) fun _ => le_rfl
  case convert => intros; exact State.now_le_ask (fun _ => le_rfl) fun _ => le_rfl

/-- Settles O43: the step's time passes first, and every case of a step goes on from there. -/
theorem clockAdvancesParametersStay : Obligations.ClockAdvancesParametersStay := by
  intro s t ht
  have htick : s.now ≤ s.tick.now := Nat.le_add_right _ _
  refine step_ind (P := fun t => s.now ≤ t.now ∧ t.params = s.params) ?reset ?busy ?illegal ?command ?waiting
    ?hostOffers ?sequencer t ht
  case reset => intro _; exact ⟨htick, rfl⟩
  case busy =>
    intro _ _
    exact inProgress_ind (P := fun t => s.now ≤ t.now ∧ t.params = s.params) ⟨htick, rfl⟩
      (fun _ _ _ => ⟨htick, rfl⟩) (fun _ _ _ => ⟨htick, rfl⟩)
  case illegal => intros; exact ⟨htick, rfl⟩
  case command =>
    intro w i t _ _ _ _ _ ht
    have hnow := exec_now_le ht
    have hparams := exec_params ht
    exact ⟨htick.trans hnow, hparams⟩
  case waiting => intros; exact ⟨htick, rfl⟩
  case hostOffers => intros; exact ⟨htick, rfl⟩
  case sequencer =>
    intro t _ ht
    have hframe := seqStep_frame ht
    exact ⟨htick.trans hframe.now, hframe.params⟩

/-! ### A command in progress holds the port (R19, R60) -/

/-- Settles O10: a command in progress makes no call and leaves the port alone until it is answered. -/
theorem portHoldsWhileBusy : Obligations.PortHoldsWhileBusy := by
  intro s hr hb
  refine ⟨s.tick.inProgress, step_busy hr hb, ?_⟩
  refine inProgress_ind (P := fun t => t.cmd = s.cmd ∧ t.cur = s.cur ∧ t.cache = s.cache ∧ t.ctl = s.ctl ∧
    t.trace = s.trace ∧ (t.busy = true → t.rsp = s.rsp)) ?same ?second ?complete
  case same => simp
  case second => intros; simp
  case complete => intros; simp

/-! ### The record (R16, R50) -/

/-- Only the last line of `ENCODING` touches the record. -/
theorem step_record (hr : s.resetIn = false) (ht : step s = .next t) : t.record = s.record ∨ RecordStored s.tick t := by
  refine step_ind (P := fun t => t.record = s.record ∨ RecordStored s.tick t) ?reset ?busy ?illegal ?command ?waiting
    ?hostOffers ?sequencer t ht
  case reset => intro h; cases hr.symm.trans h
  case busy =>
    intro _ _
    exact .inl (inProgress_ind (P := fun t => t.record = s.record) rfl (fun _ _ _ => rfl) (fun _ _ _ => rfl))
  case illegal => intros; exact .inl rfl
  case command =>
    intro w i t _ _ _ _ _ ht
    have hrecord := exec_record ht
    exact .inl hrecord
  case waiting => intros; exact .inl rfl
  case hostOffers => intros; exact .inl rfl
  case sequencer => intro t _ ht; exact (seqStep_frame ht).record

/-- Settles O50: the record stays, or all nine bytes are written at once. -/
theorem recordReplacedWholeOrNotAtAll : Obligations.RecordReplacedWholeOrNotAtAll := by
  intro s t hwf hr ht
  obtain ⟨-, hparams⟩ := clockAdvancesParametersStay s t ht
  obtain hrecord | ⟨l, b, r, hph, he, hrsp, hs, rfl⟩ := step_record hr ht
  · exact .inl (State.recordByte_congr hparams hrecord)
  · exact .inr ⟨l, b, r, hph, he, hrsp, hs, rfl, State.recordByte_writeRecord (s := s.tick) hwf r.data⟩

/-! ### The cache (R13, R20, R21 item 5) -/

/-- What a step that is no reset leaves of a cache that holds `c` under the invariant: only a successful power-control write
changes it, and that write changes the shutdown bit alone. -/
theorem step_cache_ind {P : State → Prop} {c : BitVec 16} (h : Inv s) (hr : s.resetIn = false) (hc : s.cache = some c)
    (kept : ∀ t, t.cache = some c → (s.wstage = .wNone → t.pstate = s.pstate) → P t)
    (activate : ∀ t, t.cache = some (c &&& ~~~s.params.sdMask) → t.pstate = .warming →
      s.cmd = some (encode .activate) → (s.drawAt 1).reply = .ok → P t)
    (deactivate : ∀ t, t.cache = some (c ||| s.params.sdMask) → t.pstate = .off → P t) :
    ∀ t, step s = .next t → P t := by
  have hready : s.ctl = .ready := h.core.ready_iff_cache.2 (by simp [hc])
  refine step_ind (P := P) ?reset ?busy ?illegal ?command ?waiting ?hostOffers ?sequencer
  case reset => intro hreset; cases hr.symm.trans hreset
  case busy =>
    intro _ _
    refine inProgress_ind (P := P) (kept _ hc fun _ => rfl) (fun _ _ _ => kept _ hc fun _ => rfl)
      (fun _ hw _ => kept _ hc ?_)
    intro hnone
    cases hnone.symm.trans hw
  case illegal => intros; exact kept _ hc fun _ => rfl
  case command =>
    intro w i t _ _ _ hcmd hdec ht
    refine exec_ind (P := P) ?answer ?refuse ?init ?power ?sample ?convert t ht
    case answer => intros; exact kept _ hc fun _ => rfl
    case refuse => intros; exact kept _ hc fun _ => rfl
    case init => intro _ hctl; cases hready.symm.trans hctl
    case power =>
      intro c' v done _ hc' hdone
      cases hc.symm.trans hc'
      refine State.writePower_cases (fun hok => ?_) (fun _ => kept _ hc fun _ => rfl) (fun _ => kept _ hc fun _ => rfl)
      obtain ⟨rfl, rfl, rfl⟩ | ⟨-, rfl, rfl⟩ := hdone
      · rw [eq_encode_of_decode_activate hdec] at hcmd
        exact activate _ (State.startWarmUp_cache _ _) (State.startWarmUp_pstate _ _) hcmd (by simpa using hok)
      · exact deactivate _ (State.powerDown_cache _ _) (State.powerDown_pstate _ _)
    case sample =>
      intros
      refine State.ask_cases (fun _ => State.ask_cases (fun _ => ?_) (fun _ => ?_) (fun _ => ?_)) (fun _ => ?_)
        (fun _ => ?_)
      all_goals exact kept _ (by simp [hc]) (by simp)
    case convert =>
      intros
      refine State.ask_cases (fun _ => ?_) (fun _ => ?_) (fun _ => ?_)
      all_goals exact kept _ (by simp [hc]) (by simp)
  case waiting => intros; exact kept _ hc fun _ => rfl
  case hostOffers => intros; exact kept _ hc fun _ => rfl
  case sequencer =>
    intro t _ ht
    have hframe := seqStep_frame ht
    exact kept _ (hframe.cache.trans hc) fun _ => hframe.pstate

theorem and_not_mask_idem (c m : BitVec 16) : c &&& ~~~m &&& ~~~m = c &&& ~~~m := by
  rw [BitVec.and_assoc, BitVec.and_self]

theorem or_mask_and_not_mask (c m : BitVec 16) : (c ||| m) &&& ~~~m = c &&& ~~~m := by
  rw [BitVec.and_or_distrib_right]; simp

theorem or_eq_left_of_and_eq {c m : BitVec 16} (h : c &&& m = m) : c ||| m = c := by
  rw [← h]
  ext
  simp +contextual

/-- Settles O40: the two values `ACTIVATE` and `DEACTIVATE` write agree with the cache outside the mask. -/
theorem onlyShutdownBitOfCacheChanges : Obligations.OnlyShutdownBitOfCacheChanges := by
  intro s t c h hr hc ht
  refine step_cache_ind (P := fun t => ∃ c', t.cache = some c' ∧ c' &&& ~~~s.params.sdMask = c &&& ~~~s.params.sdMask)
    h hr hc ?kept ?activate ?deactivate t ht
  case kept => intro t hcache _; exact ⟨c, hcache, rfl⟩
  case activate => intro t hcache _ _ _; exact ⟨_, hcache, and_not_mask_idem c _⟩
  case deactivate => intro t hcache _; exact ⟨_, hcache, or_mask_and_not_mask c _⟩

/-- Settles O41: with the bit already set, `DEACTIVATE` writes the value the cache has. -/
theorem shutdownLastsUntilActivate : Obligations.ShutdownLastsUntilActivate := by
  intro s t c h hr _ hoff hc hset ht
  have hnone : s.wstage = .wNone := by
    by_contra hw
    cases hoff.symm.trans (h.core.warming_iff_stage.2 hw)
  refine step_cache_ind (P := fun t => (t.pstate = .off ∧ t.cache = some c) ∨
    (t.pstate = .warming ∧ s.cmd = some (encode .activate) ∧ (s.drawAt 1).reply = .ok)) h hr hc ?kept ?activate
    ?deactivate t ht
  case kept => intro t hcache hpower; exact .inl ⟨(hpower hnone).trans hoff, hcache⟩
  case activate => intro t _ hwarm hcmd hok; exact .inr ⟨hwarm, hcmd, hok⟩
  case deactivate => intro t hcache hoff; exact .inl ⟨hoff, hcache.trans (congrArg some (or_eq_left_of_and_eq hset))⟩

/-- The cache, where it is written, is what the sensor's register holds. -/
def State.cacheTracks (s : State) : Prop := ∀ c, s.cache = some c → c = s.physReg

/-- None of the next `n` choices rewrites the sensor's register. -/
def State.quietFor (s : State) (n : Nat) : Prop := ∀ k < n, (s.drawAt k).rewrite = none

theorem State.quietFor.tick {n : Nat} (h : s.quietFor (n + 1)) : s.tick.quietFor n := by
  intro k hk
  rw [State.drawAt_tick]
  exact h (k + 1) (by omega)

theorem State.cacheTracks.tick {n : Nat} (h : s.cacheTracks) (hq : s.quietFor (n + 1)) : s.tick.cacheTracks := by
  intro c hc
  rw [State.tick_physReg, hq 0 (by omega)]
  exact h c hc

theorem State.cacheTracks.ask {c : Call} {failed done : State → State} {n : Nat} (h : s.cacheTracks)
    (hq : s.quietFor (n + 1))
    (hfailed : (s.call c).cacheTracks → (failed (s.call c)).cacheTracks)
    (hdone : (s.call c).cacheTracks → (s.call c).quietFor n → (done (s.call c)).cacheTracks) :
    (s.ask c failed done).cacheTracks :=
  have hcall : (s.call c).cacheTracks := h.tick hq
  have hquiet : (s.call c).quietFor n := State.quietFor.tick hq
  State.ask_cases (fun _ => hdone hcall hquiet) (fun _ => hfailed hcall) (fun _ => hcall)

theorem State.cacheTracks.exec {i : Instr} (h : s.cacheTracks) (hq : s.quietFor 4) (ht : exec i s = .next t) :
    t.cacheTracks := by
  refine exec_ind (P := State.cacheTracks) ?answer ?refuse ?init ?power ?sample ?convert t ht
  case answer => intros; exact h
  case refuse => intros; exact h
  case init =>
    intro _ _
    unfold State.initBody State.readPower
    refine h.ask hq id fun h hq => h.ask hq id fun h hq => h.ask hq id fun h hq => h.ask hq id fun _ _ => ?_
    rw [busReadValue_reply]
    rintro _ ⟨⟩
    rfl
  case power =>
    rintro c v done - - (⟨-, -, rfl⟩ | ⟨-, -, rfl⟩)
    · exact h.ask hq id fun _ _ => by rintro _ ⟨⟩; rfl
    · exact h.ask hq id fun _ _ => by rintro _ ⟨⟩; rfl
  case sample => intros; exact h.ask hq id fun h hq => h.ask hq id fun h _ => h
  case convert => intros; exact h.ask hq id fun h _ => h

/-- Settles O42: a step draws at most five choices, its own and the four of `INIT`. -/
theorem cacheTracksRegisterWithoutOtherWriters : Obligations.CacheTracksRegisterWithoutOtherWriters := by
  intro s t hr hquiet htracks ht
  have hq : s.tick.quietFor 4 := State.quietFor.tick hquiet
  have h : s.tick.cacheTracks := State.cacheTracks.tick (n := 4) htracks hquiet
  refine step_ind (P := State.cacheTracks) ?reset ?busy ?illegal ?command ?waiting ?hostOffers ?sequencer t ht
  case reset => intro hreset; cases hr.symm.trans hreset
  case busy => intro _ _; exact inProgress_ind (P := State.cacheTracks) h (fun _ _ _ => h) (fun _ _ _ => h)
  case illegal => intros; exact h
  case command =>
    intro w i t _ _ _ _ _ ht
    exact State.cacheTracks.exec (s := s.tick.accept w) h hq ht
  case waiting => intros; exact h
  case hostOffers => intros; exact h
  case sequencer =>
    intro t _ ht
    have hframe := seqStep_frame ht
    have hphys : t.physReg = s.tick.physReg := by
      obtain hphys | hphys := hframe.physReg
      · exact hphys
      · rw [hphys, hq 0 (by omega)]; rfl
    intro c hc
    rw [hphys]
    exact h c (hframe.cache.symm.trans hc)

/-! ### The pure commands (R22, R68) -/

/-- The response of `ENC_BATT` (R83-R85). -/
def battResponse (unknown : Bool) (percent : Byte) : Response :=
  if !unknown && decide (100 < percent.toNat) then ⟨.contractViolation, 0⟩
  else ⟨.ok, dataOf (encBatt unknown percent)⟩

theorem exec_encBatt (unknown : Bool) (percent : Byte) :
    exec (.encBatt unknown percent) s = .next { s with busy := false, rsp := some (battResponse unknown percent) } := by
  simp only [exec, execEncBatt, battResponse]
  split <;> rfl

/-- Settles O18: each response is made from the operands and the parameters. -/
theorem pureCommandsReadNoRegister : Obligations.PureCommandsReadNoRegister := by
  rintro s s' hparams i (⟨m, rfl⟩ | ⟨unknown, percent, rfl⟩ | ⟨l, b, rfl⟩ | ⟨v, rfl⟩)
  · exact ⟨⟨.ok, dataOf (encLux m)⟩, rfl, rfl⟩
  · exact ⟨battResponse unknown percent, exec_encBatt unknown percent, exec_encBatt unknown percent⟩
  · refine ⟨⟨.ok, buildRec s.params l b⟩, rfl, ?_⟩
    rw [hparams]
    rfl
  · exact ⟨⟨.ok, dataOf (estPct v)⟩, rfl, rfl⟩

end Sys2Proof.Machine
end

section
/-! The sensor bus (R42, R44, R45): a register's low byte travels first, and the two bytes read make the value again. -/

namespace Sys2Proof.Machine

/-! ### The two bytes of a register -/

theorem toNat_lowByte (v : BitVec 16) : (v.extractLsb' 0 8).toNat = v.toNat % 256 := by
  rw [BitVec.extractLsb'_toNat, Nat.shiftRight_zero]

/-- The high byte needs no narrowing: a value of 16 bits divided by 256 is below 256. -/
theorem toNat_highByte (v : BitVec 16) : (v.extractLsb' 8 8).toNat = v.toNat / 256 := by
  have hbyte : v.toNat / 256 < 256 := by omega
  rw [BitVec.extractLsb'_toNat, Nat.shiftRight_eq_div_pow]
  exact Nat.mod_eq_of_lt hbyte

theorem busReadValue_toNat (b₀ b₁ : Byte) : (busReadValue (b₀, b₁)).toNat = b₀.toNat + 256 * b₁.toNat := by
  have happend : (b₁ ++ b₀).toNat = b₁.toNat * 2 ^ 8 + b₀.toNat := by
    rw [BitVec.toNat_append, ← Nat.shiftLeft_add_eq_or_of_lt b₀.isLt, Nat.shiftLeft_eq]
  rw [busReadValue, happend]
  omega

/-! ### The bytes of each call -/

theorem Call.frame_busWrite_toNat (addr : BitVec 8) (v : BitVec 16) :
    (Call.busWrite addr v).frame.map BitVec.toNat = [addr.toNat, v.toNat % 256, v.toNat / 256] := by
  simp only [Call.frame, busWriteFrame, List.map_cons, List.map_nil, toNat_lowByte, toNat_highByte]

/-- R40, N4: the driver-level calls, the ADC's and the radio's put none of the block's bytes on this bus. -/
theorem Call.frame_eq_nil (c : Call) (hwrite : ∀ addr v, c ≠ .busWrite addr v) (hread : ∀ addr, c ≠ .busRead addr) :
    c.frame = [] := by
  cases c with
  | busWrite addr v => exact absurd rfl (hwrite addr v)
  | busRead addr => exact absurd rfl (hread addr)
  | devReady | cfgSet | sensorFetch | sensorGetLux | adcReadRaw | publish => rfl

/-- Settles O4: both bytes of a register are named by their value, and `INIT`'s read goes through them. -/
theorem busFramesAreLittleEndian : Obligations.BusFramesAreLittleEndian := by
  refine ⟨fun addr v => ?_, busReadValue_toNat, fun s f d hok => ?_, Call.frame_eq_nil⟩
  · exact ⟨Call.frame_busWrite_toNat addr v, rfl, toNat_lowByte v, toNat_highByte v⟩
  · rw [State.readPower, State.ask_ok hok]

end Sys2Proof.Machine
end

section
/-! The encoding (R61-R66): the opcode map as nine formats, what the decoder answers for each, the response word, and the step
that accepts a word. -/

namespace Sys2Proof

/-! ### The formats of the opcode map -/

/-- What a row of R64's table says of the operand (R61): the row's opcode, how many low operand bits carry a value, the bits above them
being reserved, and the command of an operand. -/
structure OperandFormat where
  opcode : BitVec 8
  used : Nat
  command : Operand → Instr

/-- The opcode map by format (R61, R64): `N` uses no operand bit, `L` all 64, `P` nine, `B` and `M` 32. -/
def operandFormats : List OperandFormat :=
  [ ⟨0x01#8, 0, fun _ => .init⟩,
    ⟨0x02#8, 0, fun _ => .activate⟩,
    ⟨0x03#8, 0, fun _ => .deactivate⟩,
    ⟨0x04#8, 0, fun _ => .sampleLux⟩,
    ⟨0x10#8, 64, .encLux⟩,
    ⟨0x11#8, 9, fun x => .encBatt (x.getLsbD 8) (x.extractLsb' 0 8)⟩,
    ⟨0x12#8, 32, fun x => .buildRec (x.extractLsb' 0 24) (x.extractLsb' 24 8)⟩,
    ⟨0x20#8, 0, fun _ => .readMv⟩,
    ⟨0x21#8, 32, fun x => .estPct (x.extractLsb' 0 32)⟩ ]

/-- The reserved bits of an operand. -/
def OperandFormat.reserved (f : OperandFormat) (x : Operand) : BitVec (64 - f.used) := x.extractLsb' f.used (64 - f.used)

/-- The mask of the format's row: the opcode and the reserved bits. -/
def OperandFormat.mask (f : OperandFormat) : CmdWord := cmdWord 0xFF#8 (BitVec.allOnes 64 <<< f.used)

/-! ### The decoder, by format -/

theorem ifReservedZero_ok_iff {n : Nat} {r : BitVec n} {i j : Instr} : ifReservedZero r i = .ok j ↔ r = 0 ∧ i = j := by
  refine ⟨ifReservedZero_eq_ok, ?_⟩
  rintro ⟨hr, rfl⟩
  exact if_pos hr

theorem ifReservedZero_reserved_iff {n : Nat} {r : BitVec n} {i : Instr} :
    ifReservedZero r i = .error .reserved ↔ r ≠ 0 := by
  unfold ifReservedZero
  split <;> simp_all

theorem ifReservedZero_ne_opcode {n : Nat} {r : BitVec n} {i : Instr} : ifReservedZero r i ≠ .error .opcode := by
  unfold ifReservedZero
  split <;> simp

theorem formN_eq_ifReservedZero (i : Instr) (x : Operand) : formN i x = ifReservedZero (x.extractLsb' 0 64) i := by
  rw [BitVec.extractLsb'_eq_self, formN]

theorem formL_eq_ifReservedZero (x : Operand) : formL x = ifReservedZero (x.extractLsb' 64 0) (.encLux x) :=
  (ifReservedZero_ok_iff.mpr ⟨Subsingleton.elim _ _, rfl⟩).symm

/-- A word with a listed opcode is the format's command, unless a reserved bit is set (R66 (b)). -/
theorem decode_listed (x : Operand) :
    ∀ f ∈ operandFormats, decode (cmdWord f.opcode x) = ifReservedZero (f.reserved x) (f.command x) := by
  have noOperand {op : BitVec 8} {i : Instr} (h : decode (cmdWord op x) = formN i x) :=
    h.trans (formN_eq_ifReservedZero i x)
  simp only [operandFormats, List.forall_mem_cons]
  exact ⟨noOperand (decode_cmdWord _ x), noOperand (decode_cmdWord _ x), noOperand (decode_cmdWord _ x),
    noOperand (decode_cmdWord _ x), (decode_cmdWord _ x).trans (formL_eq_ifReservedZero x), decode_cmdWord _ x,
    decode_cmdWord _ x, noOperand (decode_cmdWord _ x), decode_cmdWord _ x, nofun⟩

/-- Any other opcode is illegal, whatever the operand (R66 (a)). -/
theorem decode_unlisted {op : BitVec 8} (hop : ∀ f ∈ operandFormats, op ≠ f.opcode) (x : Operand) :
    decode (cmdWord op x) = .error .opcode := by
  simp only [operandFormats, List.forall_mem_cons] at hop
  obtain ⟨h1, h2, h3, h4, h5, h6, h7, h8, h9, -⟩ := hop
  rw [decode_cmdWord, if_neg h1, if_neg h2, if_neg h3, if_neg h4, if_neg h5, if_neg h6, if_neg h7, if_neg h8, if_neg h9]

/-- What the decoder can answer: what a format makes of the operand, or that no format has the opcode. -/
theorem decode_cases {P : Except Illegal Instr → Prop} (op : BitVec 8) (x : Operand)
    (listed : ∀ f ∈ operandFormats, op = f.opcode → P (ifReservedZero (f.reserved x) (f.command x)))
    (unlisted : (∀ f ∈ operandFormats, op ≠ f.opcode) → P (.error .opcode)) : P (decode (cmdWord op x)) := by
  by_cases h : ∃ f ∈ operandFormats, op = f.opcode
  · obtain ⟨f, hf, rfl⟩ := h
    rw [decode_listed x f hf]
    exact listed f hf rfl
  · push Not at h
    rw [decode_unlisted h]
    exact unlisted h

theorem decode_eq_ok_iff (op : BitVec 8) (x : Operand) (i : Instr) :
    decode (cmdWord op x) = .ok i ↔ ∃ f ∈ operandFormats, op = f.opcode ∧ f.reserved x = 0 ∧ f.command x = i := by
  constructor
  · refine decode_cases (P := fun r => r = .ok i → _) op x (fun f hf hop h => ?_) (fun _ h => nomatch h)
    exact ⟨f, hf, hop, ifReservedZero_ok_iff.mp h⟩
  · rintro ⟨f, hf, rfl, h⟩
    exact (decode_listed x f hf).trans (ifReservedZero_ok_iff.mpr h)

theorem decode_eq_reserved_iff (op : BitVec 8) (x : Operand) :
    decode (cmdWord op x) = .error .reserved ↔ ∃ f ∈ operandFormats, op = f.opcode ∧ f.reserved x ≠ 0 := by
  constructor
  · refine decode_cases (P := fun r => r = .error .reserved → _) op x (fun f hf hop h => ?_) (fun _ h => nomatch h)
    exact ⟨f, hf, hop, ifReservedZero_reserved_iff.mp h⟩
  · rintro ⟨f, hf, rfl, h⟩
    exact (decode_listed x f hf).trans (ifReservedZero_reserved_iff.mpr h)

theorem decode_eq_opcode_iff (op : BitVec 8) (x : Operand) :
    decode (cmdWord op x) = .error .opcode ↔ ∀ f ∈ operandFormats, op ≠ f.opcode := by
  refine ⟨?_, fun h => decode_unlisted h x⟩
  exact decode_cases (P := fun r => r = .error .opcode → _) op x
    (fun _ _ _ h => absurd h ifReservedZero_ne_opcode) (fun hop _ => hop)

/-- Settles O1: each operand is read back from its own bits. -/
theorem decodeReadsBackEveryCommand : Obligations.DecodeReadsBackEveryCommand :=
  decode_encode

/-! ### The operand of a decoded command -/

theorem ofBool_getLsbD_eq_extractLsb' (x : Operand) (n : Nat) : BitVec.ofBool (x.getLsbD n) = x.extractLsb' n 1 := by
  apply BitVec.eq_of_getLsbD_eq
  intro i hi
  obtain rfl : i = 0 := by omega
  simp

/-- A word is its three adjacent fields. -/
theorem extractLsb'_append_three {k m n : Nat} (x : BitVec (k + m + n)) :
    x.extractLsb' (n + m) k ++ x.extractLsb' n m ++ x.extractLsb' 0 n = x := by
  rw [BitVec.extractLsb'_append_extractLsb'_eq_extractLsb' rfl, BitVec.extractLsb'_append_extractLsb']

/-- An operand whose reserved bits are zero is the operand of its command's word: no bit of it is lost (R62). -/
theorem encode_command (x : Operand) :
    ∀ f ∈ operandFormats, f.reserved x = 0 → encode (f.command x) = cmdWord f.opcode x := by
  have noOperand {op : BitVec 8} {i : Instr} (hi : encode i = cmdWord op 0) (h : x.extractLsb' 0 64 = 0) :
      encode i = cmdWord op x := by
    rw [hi, ← h, BitVec.extractLsb'_eq_self]
  simp only [operandFormats, List.forall_mem_cons]
  refine ⟨noOperand rfl, noOperand rfl, noOperand rfl, noOperand rfl, fun _ => rfl, fun h => ?percent, fun h => ?build,
    noOperand rfl, fun h => ?millivolt, nofun⟩
  case percent =>
    have h : x.extractLsb' 9 55 = 0#55 := h
    rw [encode, ← h, ofBool_getLsbD_eq_extractLsb']
    exact congrArg (cmdWord 0x11#8) (extractLsb'_append_three (k := 55) (m := 1) (n := 8) x)
  case build =>
    have h : x.extractLsb' 32 32 = 0#32 := h
    rw [encode, ← h]
    exact congrArg (cmdWord 0x12#8) (extractLsb'_append_three (k := 32) (m := 8) (n := 24) x)
  case millivolt =>
    have h : x.extractLsb' 32 32 = 0#32 := h
    rw [encode, ← h, BitVec.extractLsb'_append_extractLsb']

/-- Settles O2: the format that read the command writes its word. -/
theorem acceptedWordIsItsCommandsWord : Obligations.AcceptedWordIsItsCommandsWord := by
  intro w i h
  rw [← cmdWord_fields w] at h ⊢
  obtain ⟨f, hf, hop, hx, rfl⟩ := (decode_eq_ok_iff _ _ _).mp h
  rw [hop, encode_command _ f hf hx]

/-! ### The rows of the opcode map -/

theorem cmdWord_inj {op op' : BitVec 8} {x x' : Operand} : cmdWord op x = cmdWord op' x' ↔ op = op' ∧ x = x' := by
  constructor
  · intro h
    exact ⟨by simpa using congrArg opcodeOf h, by simpa using congrArg operandOf h⟩
  · rintro ⟨rfl, rfl⟩
    rfl

/-- The rows of R64's table are those of the formats. -/
theorem opcodeMap_eq_operandFormats :
    opcodeMap.map (fun r => (r.pattern, r.mask)) = operandFormats.map (fun f => (cmdWord f.opcode 0, f.mask)) := by
  decide

/-- Masking the low bits away leaves zero exactly where the bits above them are zero. -/
theorem and_allOnes_shiftLeft_eq_zero_iff {w : Nat} (x : BitVec w) (n : Nat) :
    x &&& BitVec.allOnes w <<< n = 0 ↔ x.extractLsb' n (w - n) = 0 := by
  constructor
  · intro h
    apply BitVec.eq_of_getLsbD_eq
    intro i hi
    have hbit := congrArg (·.getLsbD (n + i)) h
    simpa [show n + i < w by omega, hi] using hbit
  · intro h
    apply BitVec.eq_of_getLsbD_eq
    intro i hi
    have hbit := congrArg (·.getLsbD (i - n)) h
    by_cases hn : i < n
    · simp [hn]
    · simpa [hn, hi, show i - n < w - n by omega, show n + (i - n) = i by omega] using hbit

theorem OperandFormat.and_mask_eq_iff (f : OperandFormat) (op : BitVec 8) (x : Operand) :
    cmdWord op x &&& f.mask = cmdWord f.opcode 0 ↔ op = f.opcode ∧ f.reserved x = 0 := by
  have hop : op &&& 0xFF#8 = op := BitVec.and_allOnes
  rw [OperandFormat.mask, Laws.OpcodeRow.cmdWord_and, cmdWord_inj, hop, and_allOnes_shiftLeft_eq_zero_iff]
  rfl

/-- The row a word selects has its opcode. -/
theorem opcodeOf_eq_of_selects {r : Row} {w : CmdWord} (hr : r ∈ opcodeMap) (h : w &&& r.mask = r.pattern) :
    opcodeOf w = opcodeOf r.pattern := by
  have hopcode : ∀ r ∈ opcodeMap, opcodeOf r.mask = BitVec.allOnes 8 := by decide
  calc opcodeOf w = opcodeOf w &&& opcodeOf r.mask := by rw [hopcode r hr, BitVec.and_allOnes]
    _ = opcodeOf (w &&& r.mask) := BitVec.extractLsb'_and.symm
    _ = opcodeOf r.pattern := by rw [h]

/-- No two rows have the same opcode. -/
theorem opcodeMap_eq_of_opcode_eq :
    ∀ r₁ ∈ opcodeMap, ∀ r₂ ∈ opcodeMap, opcodeOf r₁.pattern = opcodeOf r₂.pattern → r₁ = r₂ := by
  decide

theorem exists_row_iff (w : CmdWord) :
    (∃ r ∈ opcodeMap, w &&& r.mask = r.pattern) ↔
      ∃ f ∈ operandFormats, opcodeOf w = f.opcode ∧ f.reserved (operandOf w) = 0 := by
  calc (∃ r ∈ opcodeMap, w &&& r.mask = r.pattern)
      ↔ ∃ p ∈ opcodeMap.map (fun r => (r.pattern, r.mask)), w &&& p.2 = p.1 := by simp
    _ ↔ ∃ f ∈ operandFormats, w &&& f.mask = cmdWord f.opcode 0 := by simp [opcodeMap_eq_operandFormats]
    _ ↔ ∃ f ∈ operandFormats, opcodeOf w = f.opcode ∧ f.reserved (operandOf w) = 0 := by
      simp only [← OperandFormat.and_mask_eq_iff, cmdWord_fields]

/-- Being a command and selecting a row are both: an opcode of a format, and its reserved bits zero. -/
theorem exists_decode_iff_exists_row (w : CmdWord) :
    (∃ i, decode w = .ok i) ↔ ∃ r ∈ opcodeMap, w &&& r.mask = r.pattern := by
  rw [exists_row_iff, ← cmdWord_fields w]
  simp only [decode_eq_ok_iff, opcodeOf_cmdWord, operandOf_cmdWord]
  constructor
  · rintro ⟨i, f, hf, hop, hx, -⟩
    exact ⟨f, hf, hop, hx⟩
  · rintro ⟨f, hf, hop, hx⟩
    exact ⟨_, f, hf, hop, hx, rfl⟩

/-- Settles O3: a word that selects two rows gives both its opcode, and no two rows share one. -/
theorem decoderFollowsOpcodeMap : Obligations.DecoderFollowsOpcodeMap := by
  refine ⟨exists_decode_iff_exists_row, fun w r₁ r₂ hr₁ hr₂ h₁ h₂ => ?_⟩
  refine opcodeMap_eq_of_opcode_eq r₁ hr₁ r₂ hr₂ ?_
  rw [← opcodeOf_eq_of_selects hr₁ h₁, opcodeOf_eq_of_selects hr₂ h₂]

/-- Settles O5: the opcode is no format's, or a reserved bit of its format is set; format `L` has none. -/
theorem illegalWordsByCause : Obligations.IllegalWordsByCause := by
  intro op x
  refine ⟨(decode_eq_opcode_iff op x).trans ?opcode, (decode_eq_reserved_iff op x).trans ?reserved⟩
  case opcode => simp [operandFormats]
  case reserved =>
    have hL : x.extractLsb' 64 0 = 0 := Subsingleton.elim _ _
    simp only [operandFormats, OperandFormat.reserved, List.mem_cons, List.not_mem_nil, or_false, exists_eq_or_imp,
      exists_eq_left, Nat.sub_zero, BitVec.extractLsb'_eq_self, Nat.reduceSub, hL, ne_eq, not_true_eq_false, and_false,
      false_or]
    tauto

theorem decode_of_encode_eq {w : CmdWord} {i : Instr} (h : encode i = w) : decode w = .ok i := h ▸ decode_encode i

/-- Settles O6: the eight commands' words are their encodings. -/
theorem specWordsDecodeAsWritten : Obligations.SpecWordsDecodeAsWritten := by
  refine ⟨?_, ?_, ?_, ?_, ?_, ?_, ?_, ?_, ?noOpcode, ?reservedBit⟩
  case noOpcode => decide
  case reservedBit => decide
  all_goals exact decode_of_encode_eq (by decide)

end Sys2Proof

namespace Sys2Proof.Machine

/-! ### The response word -/

theorem Response.word_status (r : Response) : r.word.extractLsb' 72 8 = r.status.code :=
  BitVec.extractLsb'_append_eq_left

theorem Response.word_data (r : Response) : r.word.extractLsb' 0 72 = r.data :=
  BitVec.extractLsb'_append_eq_right

/-- R65's table. -/
def statusTable : List (Status × BitVec 8) :=
  [(.ok, 0x00), (.notReady, 0x01), (.configFailed, 0x02), (.writeFailed, 0x03), (.fetchFailed, 0x04), (.readFailed, 0x05),
    (.notActive, 0x06), (.adcFailed, 0x07), (.contractViolation, 0x0E), (.illegalCommand, 0x0F)]

theorem Status.mem_statusTable (st : Status) : (st, st.code) ∈ statusTable := by
  cases st <;> decide

/-- The table gives each number once. -/
theorem statusTable_status_eq : ∀ p ∈ statusTable, ∀ q ∈ statusTable, p.2 = q.2 → p.1 = q.1 := by
  decide

theorem Status.code_injective : Function.Injective Status.code := fun a b h =>
  statusTable_status_eq (a, a.code) a.mem_statusTable (b, b.code) b.mem_statusTable h

theorem Response.word_injective : Function.Injective Response.word := by
  intro r r' h
  have hcode : r.status.code = r'.status.code := by rw [← r.word_status, h, r'.word_status]
  have hdata : r.data = r'.data := by rw [← r.word_data, h, r'.word_data]
  exact congrArg₂ Response.mk (Status.code_injective hcode) hdata

/-- Settles O7: both fields are read back from the word, and R65's table gives a status by its number. -/
theorem responseWordCarriesStatusAndData : Obligations.ResponseWordCarriesStatusAndData := by
  intro r r'
  refine ⟨?_, r.word_status, r.word_data, fun h => Response.word_injective h⟩
  rw [r.word_status]
  exact r.status.mem_statusTable

/-! ### The accepted word -/

variable {s : State} {w : CmdWord}

/-- A ready core takes the offered word after the step's time (R60). -/
theorem step_of_aboutToAccept (h : s.aboutToAccept w) : step s = runWord s.tick w := by
  obtain ⟨hreset, hcmd, hready⟩ := h
  obtain ⟨hbusy, hfatal⟩ : s.busy = false ∧ s.ctl ≠ .fatal := by simpa [State.cmdReady] using hready
  exact step_offered hreset hbusy hfatal hcmd

/-- Settles O8: a ready core runs the word, and a word that decodes is executed from the acceptance. -/
theorem stepRunsTheAcceptedCommand : Obligations.StepRunsTheAcceptedCommand := by
  intro s w i haccept hdecode
  rw [step_of_aboutToAccept haccept, runWord_ok hdecode]
  rfl

theorem runWord_illegal (h : ∀ r ∈ opcodeMap, w &&& r.mask ≠ r.pattern) :
    runWord s w = .next (s.accept w).rejectIllegal := by
  rcases hdecode : decode w with e | i
  · exact runWord_error hdecode
  · obtain ⟨r, hr, hw⟩ := (exists_decode_iff_exists_row w).mp ⟨i, hdecode⟩
    exact absurd hw (h r hr)

/-- Settles O9: an illegal word is accepted and refused, and nothing else is done. -/
theorem illegalWordAnsweredWithoutEffect : Obligations.IllegalWordAnsweredWithoutEffect := by
  intro s w haccept hrow
  rw [step_of_aboutToAccept haccept, runWord_illegal hrow]
  rfl

end Sys2Proof.Machine
end

section
/-! The payload encoder (R80-R88): the centilux value and the inputs of each, the battery byte, the bytes of the record; and that the
sequencer never misuses a command (R181). -/

namespace Sys2Proof.Machine

variable {s t : State}

/-! ### The centilux value (R81, R82) -/

/-- R81: the value before the clamp is no negative number, so truncating it is rounding it down. -/
theorem encLux_toNat (m : BitVec 64) :
    ((encLux m).toNat : Int) = min ((max m.toInt 0 + 5000) / 10000) 0xFFFFFF := by
  have hsum : 0 ≤ max m.toInt 0 + 5000 := by omega
  have hquot : 0 ≤ (max m.toInt 0 + 5000) / 10000 := Int.ediv_nonneg hsum (by decide)
  rw [encLux, Config.luxRound, Config.luxDiv, Config.luxMax, Int.tdiv_eq_ediv_of_nonneg hsum, BitVec.toNat_ofInt]
  omega

theorem encLux_eq_ofNat_iff (m : BitVec 64) {k : Nat} (hk : k < 2 ^ 24) :
    encLux m = BitVec.ofNat 24 k ↔ min ((max m.toInt 0 + 5000) / 10000) 0xFFFFFF = (k : Int) := by
  rw [← BitVec.toNat_inj, BitVec.toNat_ofNat, Nat.mod_eq_of_lt hk, ← encLux_toNat]
  exact Int.ofNat_inj.symm

/-- Settles O14: each value's inputs are those whose quotient, clamped, is that value. -/
theorem encLuxIntervals : Obligations.EncLuxIntervals := by
  intro m
  refine ⟨fun hlow => ?low, fun k hk1 hk => ?middle, ?clamp, fun m' hle => ?monotone⟩
  case low => exact (encLux_eq_ofNat_iff m (k := 0) (by decide)).mpr (by omega)
  case middle =>
    rw [encLux_eq_ofNat_iff m (by omega)]
    omega
  case clamp =>
    refine (encLux_eq_ofNat_iff m (k := 0xFFFFFF) (by decide)).trans ?_
    omega
  case monotone =>
    have hm := encLux_toNat m
    have hm' := encLux_toNat m'
    omega

/-! ### The responses (R63, R80, R83-R87) -/

theorem exec_encLux (m : BitVec 64) :
    exec (.encLux m) s = .next { s with busy := false, rsp := some ⟨.ok, 0#48 ++ encLux m⟩ } := by
  have hdata : dataOf (encLux m) = 0#48 ++ encLux m := BitVec.setWidth_eq_append (by decide)
  rw [← hdata]
  rfl

/-- Settles O13: the data is the centilux value with zeros above it. -/
theorem encLuxAnswersCentilux : Obligations.EncLuxAnswersCentilux :=
  fun m _ => ⟨encLux m, encLux_toNat m, exec_encLux m⟩

theorem battResponse_unknown (p : Byte) : battResponse true p = ⟨.ok, 0xFF#72⟩ := rfl

/-- R83, R84: a percentage is answered as it stands. -/
theorem battResponse_percent {p : Byte} (h : p.toNat ≤ 100) : battResponse false p = ⟨.ok, 0#64 ++ p⟩ := by
  have hdata : dataOf p = 0#64 ++ p := BitVec.setWidth_eq_append (by decide)
  simp [battResponse, encBatt, Nat.not_lt.mpr h, hdata]

/-- R85: a byte above 100 is the caller's misuse. -/
theorem battResponse_misuse {p : Byte} (h : 101 ≤ p.toNat) : battResponse false p = ⟨.contractViolation, 0⟩ := by
  simp [battResponse, show 100 < p.toNat from h]

/-- Settles O16: whether the percentage is known, and its bound, are the only tests. -/
theorem encBattAnswersByteOrRefuses : Obligations.EncBattAnswersByteOrRefuses := by
  refine fun p s => ⟨?unknown, fun h => ?percent, fun h => ?misuse⟩
  case unknown => rw [exec_encBatt, battResponse_unknown]
  case percent => rw [exec_encBatt, battResponse_percent h]
  case misuse => rw [exec_encBatt, battResponse_misuse h]

/-- R87: each of the nine bytes is one of the fields, or a byte of one. -/
theorem recordBytesOf_buildRec (p : Params) (l : BitVec 24) (b : Byte) :
    recordBytesOf (buildRec p l b) =
      [p.serviceId.extractLsb' 0 8, p.serviceId.extractLsb' 8 8, 0x40, 0x05,
        l.extractLsb' 0 8, l.extractLsb' 8 8, l.extractLsb' 16 8, 0x01, b] := by
  have hrange : List.range Config.recLen = [0, 1, 2, 3, 4, 5, 6, 7, 8] := rfl
  simp only [recordBytesOf, hrange, List.map_cons, List.map_nil, recordByteOf_buildRec]
  simp (disch := decide) only [BitVec.extractLsb'_append_eq_of_le, BitVec.extractLsb'_append_eq_of_add_le]
  simp [Config.battMarker, Config.luxMarker, Config.deviceInfo]

/-- Settles O17: the answer is the built record. -/
theorem buildRecAnswersRecord : Obligations.BuildRecAnswersRecord :=
  fun l b s => ⟨buildRec s.params l b, rfl, recordBytesOf_buildRec s.params l b⟩

/-! ### The sequencer's responses (R85, R105, R116, R181) -/

theorem inProgress_driver : s.inProgress.driver = s.driver :=
  inProgress_ind (P := fun t => t.driver = s.driver) rfl (fun _ _ _ => rfl) (fun _ _ _ => rfl)

theorem seqStep_driver (h : seqStep s = .next t) : t.driver = s.driver := by
  refine seqStep_ind (P := fun t => t.driver = s.driver) ?issue ?boot ?idle ?activating ?samplingLux ?samplingBattery
    ?keepLux ?luxBytes ?noPercent ?percent ?battery ?store ?publish ?sleep ?sleeping t h
  case publish => intro _; exact ⟨rfl, rfl⟩
  case sleeping => intro _; exact ⟨fun _ => rfl, fun _ => rfl⟩
  all_goals intros; rfl

/-- The sequencer goes on driving the port, over reset too. -/
theorem step_driver_sequencer (hd : s.driver = .sequencer) (ht : step s = .next t) : t.driver = .sequencer := by
  refine step_ind (P := fun t => t.driver = .sequencer) ?reset ?busy ?illegal ?command ?waiting ?hostOffers ?sequencer t ht
  case reset => intro _; exact hd
  case busy => intro _ _; exact inProgress_driver.trans hd
  case illegal => intros; exact hd
  case command =>
    intro w i t _ _ _ _ _ ht
    have hdriver : t.driver = s.driver := congrArg SequencerView.driver (exec_sequencerView ht)
    exact hdriver.trans hd
  case waiting => intros; exact hd
  case hostOffers => intro w ws _ _ _ hhost; cases hd.symm.trans hhost
  case sequencer => intro t _ ht; exact (seqStep_driver ht).trans hd

/-- No phase expects an answer of the third class. -/
theorem not_violation_of_expectedResponse {r : Response} (h : expectedResponse s r) : r.status.cls ≠ .violation := by
  unfold expectedResponse at h
  cases hph : s.phase <;> simp only [hph] at h
  case boot => obtain ⟨hs, -⟩ | ⟨hs | hs, -⟩ := h <;> simp [hs, Status.cls]
  case activating => obtain ⟨hs, -⟩ | hs := h <;> simp [hs, Status.cls]
  case samplingLux => obtain hs | hs | hs := h <;> simp [hs, Status.cls]
  case samplingBattery | deactivating => obtain hs | hs := h <;> simp [hs, Status.cls]
  case encoding => simp [h.1, Status.cls]

theorem SeqInv.not_misused (h : SeqInv s) : s.misused = false := by
  rcases hr : s.rsp with _ | r
  · simp [State.misused, hr]
  · simpa [State.misused, hr] using not_violation_of_expectedResponse (h.expected hr)

/-- Settles O60: the sequencer's invariant holds after the step too, and names the responses its phases can find. -/
theorem sequencerNeverMisusesCommands : Obligations.SequencerNeverMisusesCommands := by
  intro s t h hd ht
  have hinv : Inv t := everyStepKeepsInvariant s t h ht
  exact (hinv.sequencer (step_driver_sequencer hd ht)).not_misused

end Sys2Proof.Machine
end

section
/-! `INIT` (R101-R105): its calls in order, what it leaves where all are answered well, and where one fails. -/

namespace Sys2Proof.Machine

variable {s : State}

/-! ### The calls of `INIT` (R101, R102) -/

/-- Each call of `INIT` draws one choice. -/
theorem State.drawAt_initCalls {k : Nat} (hk : k ≤ 4) (n : Nat) : (s.initCalls k).drawAt n = s.drawAt (n + k) := by
  match k, hk with
  | 0, _ => rfl
  | 1, _ | 2, _ | 3, _ | 4, _ => simp only [State.initCalls, State.drawAt_call]

theorem State.initCalls_drawn {k : Nat} (hk : k ≤ 4) : (s.initCalls k).drawn = s.drawn + k := by
  match k, hk with
  | 0, _ | 1, _ | 2, _ | 3, _ | 4, _ => rfl

/-- The history after the first `k` calls. -/
theorem State.initCalls_trace_call {k : Nat} (hk : k ≤ 4) :
    (s.initCalls k).trace.map Event.call =
      (([.devReady, .cfgSet .integrationTime s.params.itValue, .cfgSet .gain s.params.gainValue,
        .busRead s.params.pwrRegAddr] : List Call).take k).reverse ++ s.trace.map Event.call := by
  match k, hk with
  | 0, _ | 1, _ | 2, _ | 3, _ | 4, _ => rfl

/-! ### How `INIT` ends (R101, R103, R104) -/

theorem initBody_done (hok : ∀ n < 4, (s.drawAt n).reply = .ok) :
    s.initBody = State.initDone (s.initCalls 4).physReg (s.initCalls 4) := by
  have ok (n : Nat) (hn : n < 4) : ((s.initCalls n).drawAt 0).reply = .ok := by
    rw [State.drawAt_initCalls hn.le, Nat.zero_add]; exact hok n hn
  calc s.initBody
      = (s.initCalls 3).readPower (State.failInit .configFailed) State.initDone :=
        (State.ask_ok (ok 0 (by decide))).trans <| (State.ask_ok (ok 1 (by decide))).trans <|
          State.ask_ok (ok 2 (by decide))
    _ = State.initDone (s.initCalls 4).physReg (s.initCalls 4) := State.readPower_ok (ok 3 (by decide))

/-- The first failing call ends `INIT`, with the status of that call. -/
theorem initBody_failed {k : Nat} (hk : k < 4) (hok : ∀ n < k, (s.drawAt n).reply = .ok)
    (hfail : (s.drawAt k).reply = .fail) :
    s.initBody = State.failInit (if k = 0 then .notReady else .configFailed) (s.initCalls (k + 1)) := by
  have ok (n : Nat) (hn : n < k) : ((s.initCalls n).drawAt 0).reply = .ok := by
    rw [State.drawAt_initCalls (by omega), Nat.zero_add]; exact hok n hn
  have fail : ((s.initCalls k).drawAt 0).reply = .fail := by
    rw [State.drawAt_initCalls hk.le, Nat.zero_add]; exact hfail
  match k, hk with
  | 0, _ => exact State.ask_fail fail
  | 1, _ => exact (State.ask_ok (ok 0 (by decide))).trans (State.ask_fail fail)
  | 2, _ =>
    exact (State.ask_ok (ok 0 (by decide))).trans <| (State.ask_ok (ok 1 (by decide))).trans (State.ask_fail fail)
  | 3, _ =>
    exact (State.ask_ok (ok 0 (by decide))).trans <| (State.ask_ok (ok 1 (by decide))).trans <|
      (State.ask_ok (ok 2 (by decide))).trans (State.ask_fail fail)

/-- Settles O24: the last of the four calls reads the value that the cache and the answer carry. -/
theorem initReadsBackIntoCache : Obligations.InitReadsBackIntoCache := by
  intro s hctl hok
  have h0 := hok 0 (by decide)
  have h1 := hok 1 (by decide)
  have h2 := hok 2 (by decide)
  have h3 := hok 3 (by decide)
  refine ⟨(s.initCalls 4).physReg, by simp [State.initCalls], (s.initCalls 1).now, (s.initCalls 2).now,
    (s.initCalls 3).now, (s.initCalls 4).now, Nat.le_add_right _ _, Nat.le_add_right _ _, Nat.le_add_right _ _,
    Nat.le_add_right _ _, ?_⟩
  rw [exec_init hctl, initBody_done hok]
  refine congrArg Host.Outcome.next ?_
  apply State.ext
  case rsp =>
    have hdata : dataOf (s.initCalls 4).physReg = 0#56 ++ (s.initCalls 4).physReg :=
      BitVec.setWidth_eq_append (by decide)
    rw [State.initDone_rsp, hdata]
  case pending => simp [State.initCalls, h0, h1, h2, h3]
  case script => simp [State.initCalls, ← List.drop_one]
  case trace => simp [State.initCalls, h0, h1, h2, h3]
  case drawn => exact State.initCalls_drawn le_rfl
  all_goals simp

/-- Settles O25: `INIT` ends in `fail_init` after the call that failed, with the calls so far in the history. -/
theorem initFailureIsFatal : Obligations.InitFailureIsFatal := by
  intro s k hctl hk hok hfail
  refine ⟨_, (exec_init hctl).trans (congrArg _ (initBody_failed hk hok hfail)), ?first, ?later, rfl, rfl, ?_, ?_, ?_,
    State.initCalls_drawn hk, State.initCalls_trace_call hk⟩
  case first => rintro rfl; exact ⟨rfl, rfl⟩
  case later =>
    intro hpos
    rw [if_neg hpos.ne']
    exact ⟨rfl, rfl⟩
  all_goals simp

end Sys2Proof.Machine
end

section
/-! The sensor commands' answers (R105-R116): refusals, the power-control writes, the sample. -/

namespace Sys2Proof.Machine

variable {s t : State}

/-! ### Refusals (R105, R116) -/

theorem exec_init_refused (hctl : s.ctl ≠ .uninit) : exec .init s = .next (s.reject .contractViolation) := by
  simp only [exec, execInit, if_neg hctl]

theorem State.readyCache_of_not_ready (hctl : s.ctl ≠ .ready) : s.readyCache = none := by
  rw [State.readyCache, if_neg hctl]

theorem exec_activate_refused (hctl : s.ctl ≠ .ready) : exec .activate s = .next (s.reject .contractViolation) := by
  simp only [exec, execActivate, State.readyCache_of_not_ready hctl]

theorem exec_deactivate_refused (hctl : s.ctl ≠ .ready) : exec .deactivate s = .next (s.reject .contractViolation) := by
  simp only [exec, execDeactivate, State.readyCache_of_not_ready hctl]

theorem exec_sampleLux_refused (hctl : s.ctl ≠ .ready) : exec .sampleLux s = .next (s.reject .contractViolation) := by
  simp only [exec, execSampleLux, if_neg hctl]

theorem exec_sampleLux_not_active (hctl : s.ctl = .ready) (hpower : s.pstate ≠ .active) :
    exec .sampleLux s = .next (s.reject .notActive) := by
  simp only [exec, execSampleLux, if_pos hctl, if_neg hpower]

/-- Settles O26: the lifecycle check comes before any call. -/
theorem lifecycleViolationsRefused : Obligations.LifecycleViolationsRefused := by
  refine fun s => ⟨fun hctl => exec_init_refused (by simp [hctl]), fun hctl i hi => ?_⟩
  have hready : s.ctl ≠ .ready := by simp [hctl]
  obtain rfl | rfl | rfl : i = .activate ∨ i = .deactivate ∨ i = .sampleLux := by simpa using hi
  · exact exec_activate_refused hready
  · exact exec_deactivate_refused hready
  · exact exec_sampleLux_refused hready

/-- Settles O35: the power check comes before any call. -/
theorem sampleLuxRefusedUnlessActive : Obligations.SampleLuxRefusedUnlessActive :=
  fun _ hctl hpower => exec_sampleLux_not_active hctl hpower

/-! ### Answered calls and power-control writes (R106-R108, R113, R114) -/

/-- A call that is answered takes its time and enters the history, and none stays outstanding by it. -/
theorem State.call_answered {c : Call} {r : Reply} (hr : (s.drawAt 0).reply = r) (hne : r ≠ .never) :
    s.call c = { s.tick with trace := ⟨c, r, s.tick.now⟩ :: s.trace } := by
  subst hr
  simp only [State.call, if_neg hne]
  rfl

theorem State.readyCache_of_ready {c : BitVec 16} (hctl : s.ctl = .ready) (hc : s.cache = some c) :
    s.readyCache = some c := by
  rw [State.readyCache, if_pos hctl, hc]

theorem exec_activate_ok {c : BitVec 16} (hctl : s.ctl = .ready) (hc : s.cache = some c)
    (hok : (s.drawAt 0).reply = .ok) :
    exec .activate s = .next ((s.wrote (c &&& ~~~s.params.sdMask)).startWarmUp (c &&& ~~~s.params.sdMask)) := by
  rw [exec_activate (State.readyCache_of_ready hctl hc), State.writePower_ok hok, State.wrote]

theorem exec_deactivate_ok {c : BitVec 16} (hctl : s.ctl = .ready) (hc : s.cache = some c)
    (hok : (s.drawAt 0).reply = .ok) :
    exec .deactivate s = .next ((s.wrote (c ||| s.params.sdMask)).powerDown (c ||| s.params.sdMask)) := by
  rw [exec_deactivate (State.readyCache_of_ready hctl hc), State.writePower_ok hok, State.wrote]

/-- Settles O27: a successful write, and then the start of the first delay. -/
theorem activateEntersWarmUp : Obligations.ActivateEntersWarmUp := by
  intro s c hctl hc hok
  rw [exec_activate_ok hctl hc hok, State.wrote, State.call_answered hok (by decide)]
  rfl

/-- Settles O32: a successful write, and then the answer. -/
theorem deactivateShutsDown : Obligations.DeactivateShutsDown := by
  intro s c hctl hc hok
  rw [exec_deactivate_ok hctl hc hok, State.wrote, State.call_answered hok (by decide)]
  rfl

/-- Settles O28: either command goes from the failed write to its answer. -/
theorem failedPowerWriteChangesNothing : Obligations.FailedPowerWriteChangesNothing := by
  intro s c i v hctl hc hfail hi
  have hcache := State.readyCache_of_ready hctl hc
  obtain ⟨rfl, rfl⟩ | ⟨rfl, rfl⟩ := hi
  · rw [exec_activate hcache, State.writePower_fail hfail, State.call_answered hfail (by decide)]
    rfl
  · rw [exec_deactivate hcache, State.writePower_fail hfail, State.call_answered hfail (by decide)]
    rfl

/-! ### The sample (R115) -/

theorem sampleBody_fetch_failed (hfetch : (s.drawAt 0).reply = .fail) :
    s.sampleBody = (s.call .sensorFetch).reject .fetchFailed :=
  State.ask_fail hfetch

theorem sampleBody_read_failed (hfetch : (s.drawAt 0).reply = .ok) (hread : (s.drawAt 1).reply = .fail) :
    s.sampleBody = ((s.call .sensorFetch).call .sensorGetLux).reject .readFailed := by
  rw [← State.drawAt_call s .sensorFetch] at hread
  rw [State.sampleBody, State.ask_ok hfetch, State.ask_fail hread]

theorem sampleBody_ok (hfetch : (s.drawAt 0).reply = .ok) (hread : (s.drawAt 1).reply = .ok) :
    s.sampleBody = ((s.call .sensorFetch).call .sensorGetLux).respond .ok (dataOf (s.drawAt 1).lux) := by
  rw [← State.drawAt_call s .sensorFetch] at hread ⊢
  rw [State.sampleBody, State.ask_ok hfetch, State.ask_ok hread]

/-- Settles O33: both calls are answered, and the answer carries what the second one gave. -/
theorem sampleLuxAnswersReading : Obligations.SampleLuxAnswersReading := by
  intro s hctl hpower hfetch hread
  have hdata : dataOf (s.drawAt 1).lux = 0#8 ++ (s.drawAt 1).lux := BitVec.setWidth_eq_append (by decide)
  rw [exec_sampleLux hctl hpower, sampleBody_ok hfetch hread, hdata]
  refine congrArg Host.Outcome.next ?_
  apply State.ext
  all_goals simp [hfetch, hread]

/-- Settles O34: the sample ends at the call that failed. -/
theorem sampleLuxReportsFailedStep : Obligations.SampleLuxReportsFailedStep := by
  refine fun s hctl hpower => ⟨fun hfetch => ?fetch, fun hfetch hread => ?read⟩
  case fetch =>
    refine ⟨_, (exec_sampleLux hctl hpower).trans (congrArg _ (sampleBody_fetch_failed hfetch)), ?_⟩
    simp [hctl, hpower]
  case read =>
    refine ⟨_, (exec_sampleLux hctl hpower).trans (congrArg _ (sampleBody_read_failed hfetch hread)), ?_⟩
    simp [hctl, hpower]

/-- A reading is answered in `ACTIVE` alone. -/
theorem active_of_exec_sampleLux_ok {d : Data} (ht : exec .sampleLux s = .next t) (hrsp : t.rsp = some ⟨.ok, d⟩) :
    s.pstate = .active := by
  by_contra hpower
  by_cases hctl : s.ctl = .ready
  · rw [exec_sampleLux_not_active hctl hpower] at ht
    cases ht
    simp at hrsp
  · rw [exec_sampleLux_refused hctl] at ht
    cases ht
    simp at hrsp

/-- Settles O36: a reading needs `ACTIVE`, where the invariant knows the write and its age. -/
theorem noReadingBeforeSettleTime : Obligations.NoReadingBeforeSettleTime := by
  intro s t d h haccept ht hrsp
  rw [step_of_aboutToAccept haccept, runWord_ok (decode_encode .sampleLux)] at ht
  have hactive : s.pstate = .active := active_of_exec_sampleLux_ok (s := s.tick.accept (encode .sampleLux)) ht hrsp
  obtain ⟨v, t₀, hlast, hclear, hsettled⟩ := h.core.settled hactive
  refine ⟨v, t₀, hlast, hclear, ?_⟩
  simpa only [settleUs, Config.tMarginUs, Nat.add_assoc] using hsettled

end Sys2Proof.Machine
end

section
/-! The settle delays of `ACTIVATE` (R109-R111). -/

namespace Sys2Proof.Machine

variable {s : State}

@[simp] theorem State.drawAt_wrote (v : BitVec 16) (n : Nat) : (s.wrote v).drawAt n = s.drawAt (n + 1) :=
  State.drawAt_call s (.busWrite s.params.pwrRegAddr v) n

@[simp] theorem State.drawAt_startWarmUp (v : BitVec 16) (n : Nat) : (s.startWarmUp v).drawAt n = s.drawAt n := rfl

@[simp] theorem State.drawAt_startSecondDelay (n : Nat) : s.startSecondDelay.drawAt n = s.drawAt n := rfl

theorem State.inProgress_of_no_call (hp : s.pending = none) : s.inProgress = s.warm := by
  simp [State.inProgress, hp]

/-- A step of waiting lets time pass and looks at the stage's deadline. -/
theorem step_warm (hr : s.resetIn = false) (hb : s.busy = true) (hp : s.pending = none) : step s = .next s.tick.warm := by
  rw [step_busy hr hb, State.inProgress_of_no_call (s := s.tick) hp]

theorem State.w1_warm (hw : s.wstage = .w1) : s.warm = if s.wDeadline ≤ s.now then s.startSecondDelay else s := by
  simp only [State.warm, hw]

theorem State.w2_warm (hw : s.wstage = .w2) : s.warm = if s.wDeadline ≤ s.now then s.endWarmUp else s := by
  simp only [State.warm, hw]

/-- Settles O29: the stage ends if the step's time reaches the deadline. -/
theorem firstSettleDelayHolds : Obligations.FirstSettleDelayHolds := by
  intro s hr hb hp hw
  refine ⟨_, step_warm hr hb hp, ?_⟩
  rw [State.w1_warm (s := s.tick) hw]
  split
  next hd => exact ⟨rfl, hb, rfl, rfl, rfl, fun hlt => absurd hd hlt.not_ge, fun _ => ⟨rfl, rfl⟩⟩
  next hd => exact ⟨rfl, hb, rfl, rfl, rfl, fun _ => ⟨hw, rfl⟩, fun hle => absurd hle hd⟩

/-- Settles O30: the command is answered if the step's time reaches the deadline. -/
theorem secondSettleDelayHolds : Obligations.SecondSettleDelayHolds := by
  intro s hr hb hp hw
  refine ⟨_, step_warm hr hb hp, ?_⟩
  rw [State.w2_warm (s := s.tick) hw]
  split
  next hd => exact ⟨rfl, rfl, rfl, fun hlt => absurd hd hlt.not_ge, fun _ => ⟨rfl, rfl, rfl, rfl⟩⟩
  next hd => exact ⟨rfl, rfl, rfl, fun _ => ⟨hw, rfl, rfl, hb, rfl⟩, fun hle => absurd hle hd⟩

theorem step_second_delay (hr : s.resetIn = false) (hb : s.busy = true) (hp : s.pending = none) (hw : s.wstage = .w1)
    (hd : s.wDeadline ≤ s.tick.now) : step s = .next s.tick.startSecondDelay := by
  rw [step_warm hr hb hp, State.w1_warm (s := s.tick) hw, State.tick_wDeadline, if_pos hd]

theorem step_activated (hr : s.resetIn = false) (hb : s.busy = true) (hp : s.pending = none) (hw : s.wstage = .w2)
    (hd : s.wDeadline ≤ s.tick.now) : step s = .next s.tick.endWarmUp := by
  rw [step_warm hr hb hp, State.w2_warm (s := s.tick) hw, State.tick_wDeadline, if_pos hd]

theorem run_succ_of_step {t : State} (k : Nat) (h : step s = .next t) :
    Host.Core.run Sys2Proof.core (k + 1) s = Host.Core.run Sys2Proof.core k t := by
  have hcore : Sys2Proof.core.step s = .next t := h
  simp only [Host.Core.run, hcore]

/-- Both delays end, each in the step whose time reaches its deadline, and `ACTIVATE` is answered. -/
theorem run_both_delays (hr : s.resetIn = false) (hb : s.busy = true) (hp : s.pending = none) (hw : s.wstage = .w1)
    (hfirst : s.wDeadline ≤ s.tick.now) (hsecond : s.params.tIntUs + Config.tMarginUs ≤ (s.drawAt 1).elapsed) :
    ∃ t, Host.Core.run Sys2Proof.core 2 s = .next t ∧ t.pstate = .active ∧ t.wstage = .wNone ∧ t.busy = false ∧
      t.rsp = some ⟨.ok, 0⟩ ∧ t.cache = s.cache ∧
      s.wDeadline + s.params.tIntUs + Config.tMarginUs ≤ t.now := by
  let u := s.tick.startSecondDelay
  have hnow : u.tick.now = s.tick.now + (s.drawAt 1).elapsed := by simp [u]
  have hd : u.wDeadline ≤ u.tick.now := by
    rw [hnow, State.startSecondDelay_wDeadline, State.tick_params]
    omega
  have hstart : step s = .next u := step_second_delay hr hb hp hw hfirst
  have hend : step u = .next u.tick.endWarmUp := step_activated (s := u) hr hb hp rfl hd
  refine ⟨u.tick.endWarmUp, (run_succ_of_step 1 hstart).trans (run_succ_of_step 0 hend), rfl, rfl, rfl, rfl, rfl, ?_⟩
  rw [State.endWarmUp_now, hnow]
  omega

/-- Settles O31: the accepting step writes, and each of the two next ones ends a delay. -/
theorem activateCompletesAfterBothDelays : Obligations.ActivateCompletesAfterBothDelays := by
  intro s c haccept hctl hc hp hok hfirst hsecond
  let v := c &&& ~~~s.params.sdMask
  let w := ((s.tick.accept (encode .activate)).wrote v).startWarmUp v
  have hacked : ((s.tick.accept (encode .activate)).drawAt 0).reply = .ok := by simpa using hok
  have hwrite : step s = .next w := by
    rw [step_of_aboutToAccept haccept, runWord_ok (decode_encode .activate)]
    exact exec_activate_ok (s := s.tick.accept (encode .activate)) hctl hc hacked
  have hpending : w.pending = none := by simpa [w, State.wrote, hok] using hp
  have hfirst : w.wDeadline ≤ w.tick.now := by simpa [w, State.wrote] using hfirst
  have hsecond : w.params.tIntUs + Config.tMarginUs ≤ (w.drawAt 1).elapsed := by
    simpa [w, State.wrote, Config.tMarginUs] using hsecond
  obtain ⟨t, hrun, hactive, hstage, hbusy, hrsp, hcache, hnow⟩ :=
    run_both_delays (s := w) haccept.1 rfl hpending rfl hfirst hsecond
  refine ⟨t, (run_succ_of_step 2 hwrite).trans hrun, hactive, hstage, hbusy, hrsp, hcache, ?_⟩
  simpa [w, State.wrote, Config.tMarginUs] using hnow

end Sys2Proof.Machine
end

section
/-! The table of the power state (R100), and the machine whose `INIT` failed (R104). -/

namespace Sys2Proof.Machine

variable {s t : State}

/-! ### The power state (R100) -/

/-- What a command leaves of the power state: it stays, or the command is one of the two that write it, and its write was
answered well. -/
def PowerWritten (i : Instr) (s t : State) : Prop :=
  t.pstate = s.pstate ∨
    (i = .activate ∧ t.pstate = .warming ∧ (s.drawAt 0).reply = .ok) ∨
    (i = .deactivate ∧ t.pstate = .off ∧ (s.drawAt 0).reply = .ok)

theorem exec_powerWritten {i : Instr} (hoff : s.ctl = .uninit → s.pstate = .off) (ht : exec i s = .next t) :
    PowerWritten i s t := by
  refine exec_ind (P := PowerWritten i s) ?answer ?refuse ?init ?power ?sample ?convert t ht
  case answer => intros; exact .inl rfl
  case refuse => intros; exact .inl rfl
  case init =>
    intro _ hctl
    refine initBody_ind (P := PowerWritten i s) ?hang ?notReady ?badConfig ?done
    case done => intro _; exact .inl (hoff hctl).symm
    all_goals intros; exact .inl (State.initCalls_pstate _)
  case power =>
    intro c v done _ _ hdone
    refine State.writePower_cases (fun hok => ?_) (fun _ => .inl rfl) (fun _ => .inl rfl)
    obtain ⟨hi, -, rfl⟩ | ⟨hi, -, rfl⟩ := hdone
    · exact .inr (.inl ⟨hi, rfl, hok⟩)
    · exact .inr (.inr ⟨hi, rfl, hok⟩)
  case sample =>
    intros
    refine State.ask_cases (fun _ => State.ask_cases (fun _ => ?_) (fun _ => ?_) (fun _ => ?_)) (fun _ => ?_) (fun _ => ?_)
    all_goals exact .inl (by simp)
  case convert => intros; exact State.ask_cases (fun _ => .inl rfl) (fun _ => .inl rfl) (fun _ => .inl rfl)

/-- The rows of R100's table. -/
def PowerRow (s t : State) : Prop :=
  t.pstate = s.pstate ∨
    (t.pstate = .warming ∧ (s.pstate = .off ∨ s.pstate = .active) ∧ s.cmd = some (encode .activate) ∧
      (s.drawAt 1).reply = .ok) ∨
    (s.pstate = .warming ∧ t.pstate = .active ∧ s.wstage = .w2 ∧ s.wDeadline ≤ t.now ∧ t.rsp = some ⟨.ok, 0⟩) ∨
    (s.pstate = .active ∧ t.pstate = .off ∧ s.cmd = some (encode .deactivate) ∧ (s.drawAt 1).reply = .ok)

theorem CoreInv.off_of_uninit (h : CoreInv s) (hctl : s.ctl = .uninit) : s.pstate = .off :=
  by_contra fun hp => by cases hctl.symm.trans (h.powered_ready hp)

/-- Nothing warms up where a command is accepted, so that a write leads from `OFF` or `ACTIVE`. -/
theorem powerRow_of_powerWritten {i : Instr} (hw : s.pstate ≠ .warming) (hc : s.cmd = some (encode i))
    (h : PowerWritten i (s.tick.accept (encode i)) t) : PowerRow s t := by
  obtain hkept | ⟨rfl, hwarm, hok⟩ | ⟨rfl, hoff, hok⟩ := h
  · exact .inl hkept
  · rw [State.drawAt_accept, State.drawAt_tick] at hok
    have hfrom : s.pstate = .off ∨ s.pstate = .active := by
      cases hp : s.pstate with
      | off => exact .inl rfl
      | warming => exact absurd hp hw
      | active => exact .inr rfl
    exact .inr (.inl ⟨hwarm, hfrom, hc, hok⟩)
  · rw [State.drawAt_accept, State.drawAt_tick] at hok
    cases hp : s.pstate with
    | off => exact .inl (hoff.trans hp.symm)
    | warming => exact absurd hp hw
    | active => exact .inr (.inr (.inr ⟨hp, hoff, hc, hok⟩))

/-- Settles O39: of all a step can leave, a command's write and the end of the second delay change the power state. -/
theorem powerStateChangesOnlyByItsTable : Obligations.PowerStateChangesOnlyByItsTable := by
  intro s t h hr ht
  refine step_ind (P := PowerRow s) ?reset ?busy ?illegal ?command ?waiting ?hostOffers ?sequencer t ht
  case reset => intro hreset; cases hr.symm.trans hreset
  case busy =>
    intro _ _
    refine inProgress_ind (P := PowerRow s) (.inl rfl) (fun _ _ _ => .inl rfl) (fun _ hw hd => ?_)
    have hwarm : s.pstate = .warming := h.core.warming_iff_stage.2 fun hnone => by cases hnone.symm.trans hw
    exact .inr (.inr (.inl ⟨hwarm, rfl, hw, hd, rfl⟩))
  case illegal => intros; exact .inl rfl
  case command =>
    intro w i t _ hb _ hc hdec ht
    obtain rfl : encode i = w := acceptedWordIsItsCommandsWord w i hdec
    exact powerRow_of_powerWritten (h.core.not_warming hb) hc (exec_powerWritten h.core.off_of_uninit ht)
  case waiting => intros; exact .inl rfl
  case hostOffers => intros; exact .inl rfl
  case sequencer =>
    intro t _ ht
    have hframe := seqStep_frame ht
    exact .inl hframe.pstate

/-! ### The stopped machine (R104, R165) -/

theorem hostStep_fatal {ws : List CmdWord} (hctl : s.ctl = .fatal) : hostStep s ws = .fault (.initFailed s.fatalCode) := by
  simp [hostStep, hctl]

theorem step_sequencerTurn (turn : s.sequencerTurn) : step s = seqStep s.tick := by
  obtain ⟨hr, hb, hc, hp, hd⟩ := turn
  rw [step_driver hr hb hc, driverStep_sequencer (s := s.tick) hd, State.tick_pending, hp]
  rfl

theorem seqStep_halted (hph : s.phase = .halted) : seqStep s = .fault (.initFailed s.fatalCode) := by
  simp only [seqStep, hph, seqHalted]

/-- Settles O11: the port, the host and the sequencer's last phase each answer with the fault. -/
theorem failedInitStopsMachine : Obligations.FailedInitStopsMachine := by
  refine fun s hr hb => ⟨fun w hctl hc => ?word, fun ws hctl hc hd => ?host, fun turn hph => ?halted⟩
  case word => exact step_offered_fatal hr hb hctl hc
  case host =>
    rw [step_driver hr hb hc, driverStep_host (s := s.tick) hd]
    exact hostStep_fatal (s := s.tick) hctl
  case halted =>
    rw [step_sequencerTurn turn]
    exact seqStep_halted (s := s.tick) hph

end Sys2Proof.Machine
end

section
/-! The battery path (R130-R138): the curve on unbounded integers, its table, the commands that answer a percentage and a sample, and the
scaling of a raw code. -/

namespace Sys2Proof.Machine

variable {s : State}

/-! ### The curve (R134, R135) -/

/-- R134: at or above a segment's start the numerator is no negative number, so truncating is rounding down. -/
theorem curveSegment_of_start_le {mv start num : Int} (base den : Int) (h : start ≤ mv) (hnum : 0 ≤ num) :
    curveSegment mv start base num den = base + (mv - start) * num / den := by
  rw [curveSegment, Int.tdiv_eq_ediv_of_nonneg (Int.mul_nonneg (Int.sub_nonneg.mpr h) hnum)]

theorem curve_eq_ediv (mv : Int) :
    curve mv =
      if 3000 ≤ mv then 100
      else if 2850 ≤ mv then 80 + (mv - 2850) * 20 / 150
      else if 2700 ≤ mv then 50 + (mv - 2700) * 30 / 150
      else if 2550 ≤ mv then 20 + (mv - 2550) * 30 / 150
      else if 2400 ≤ mv then 5 + (mv - 2400) * 15 / 150
      else if 2300 ≤ mv then (mv - 2300) * 5 / 100
      else 0 :=
  ite_congr rfl (fun _ => rfl) fun _ =>
  ite_congr rfl (fun h => curveSegment_of_start_le 80 150 h (by decide)) fun _ =>
  ite_congr rfl (fun h => curveSegment_of_start_le 50 150 h (by decide)) fun _ =>
  ite_congr rfl (fun h => curveSegment_of_start_le 20 150 h (by decide)) fun _ =>
  ite_congr rfl (fun h => curveSegment_of_start_le 5 150 h (by decide)) fun _ =>
  ite_congr rfl (fun h => (curveSegment_of_start_le 0 100 h (by decide)).trans (zero_add _)) fun _ => rfl

/-- R135 item 4: on the sloped segments the fractions may be reduced. -/
theorem curve_eq_reduced {mv : Int} (hlow : 2300 ≤ mv) (hhigh : mv < 3000) :
    curve mv =
      if 2850 ≤ mv then 80 + (mv - 2850) * 2 / 15
      else if 2700 ≤ mv then 50 + (mv - 2700) / 5
      else if 2550 ≤ mv then 20 + (mv - 2550) / 5
      else if 2400 ≤ mv then 5 + (mv - 2400) / 10
      else (mv - 2300) / 20 := by
  rw [curve_eq_ediv]
  omega

/-- R135 item 1, one millivolt at a time. -/
theorem curve_monotone : Monotone curve := by
  refine monotone_int_of_le_succ fun mv => ?_
  rw [curve_eq_ediv, curve_eq_ediv]
  omega

theorem curve_nonneg (mv : Int) : 0 ≤ curve mv := by
  rw [curve_eq_ediv]
  omega

theorem curve_le (mv : Int) : curve mv ≤ 100 := by
  rw [curve_eq_ediv]
  omega

/-- The clamp of R134 never acts, and a percentage fits its byte. -/
theorem estPct_toNat (v : BitVec 32) : ((estPct v).toNat : Int) = curve v.toInt := by
  have hlow := curve_nonneg v.toInt
  have hhigh := curve_le v.toInt
  rw [estPct, max_eq_left hlow, min_eq_left hhigh, BitVec.toNat_ofInt]
  omega

/-- Settles O20: the byte is the curve, which is monotone and whose fractions reduce; the boundaries are five values. -/
theorem estPctShape : Obligations.EstPctShape := by
  refine ⟨estPct_toNat_le, fun v v' hle => ?monotone, ?boundaries, fun v hlow hhigh => ?reduced⟩
  case monotone =>
    have hcurve := curve_monotone hle
    rwa [← estPct_toNat, ← estPct_toNat, Int.ofNat_le] at hcurve
  case boundaries => decide
  case reduced => exact (estPct_toNat v).trans (curve_eq_reduced hlow hhigh)

theorem exec_estPct (v : BitVec 32) :
    exec (.estPct v) s = .next { s with busy := false, rsp := some ⟨.ok, 0#64 ++ estPct v⟩ } := by
  have hdata : dataOf (estPct v) = 0#64 ++ estPct v := BitVec.setWidth_eq_append (by decide)
  rw [← hdata]
  rfl

/-- Settles O19: the data is the percentage with zeros above it. -/
theorem estPctAnswersCurve : Obligations.EstPctAnswersCurve :=
  fun v _ => ⟨estPct v, exec_estPct v, (estPct_toNat v).trans (curve_eq_ediv v.toInt)⟩

/-! ### The curve as a table (R136) -/

theorem pctStarts_length : pctStarts.length = 100 := rfl

/-- 95_test_vectors.md section 2.4: at each entry of the table the curve reaches that entry's percentage, one millivolt below not yet. -/
theorem curve_at_pctStarts :
    ∀ k : Fin pctStarts.length, curve pctStarts[k] = (k : Nat) + 1 ∧ curve (pctStarts[k] - 1) = (k : Nat) := by
  decide

/-- The curve being monotone, an entry is at or below a reading exactly where the reading's percentage is that entry's or more. -/
theorem pctStarts_le_iff (mv : Int) {k : Nat} (hk : k < pctStarts.length) : pctStarts[k] ≤ mv ↔ (k : Int) < curve mv := by
  obtain ⟨hat, hbelow⟩ : curve pctStarts[k] = k + 1 ∧ curve (pctStarts[k] - 1) = k := curve_at_pctStarts ⟨k, hk⟩
  constructor
  · intro hle
    have hcurve := curve_monotone hle
    omega
  · intro hlt
    by_contra hgt
    have hcurve : curve mv ≤ curve (pctStarts[k] - 1) := curve_monotone (by omega)
    omega

/-- Where a predicate holds of the first `n` entries of a list and of no other, `n` of them are counted. -/
theorem countP_eq_of_holds_iff_lt {α : Type} {p : α → Bool} {l : List α} {n : Nat} (hn : n ≤ l.length)
    (h : ∀ (i : Nat) (hi : i < l.length), p l[i] = true ↔ i < n) : l.countP p = n := by
  have htake : (l.take n).countP p = (l.take n).length := by
    refine List.countP_eq_length.mpr fun a ha => ?_
    obtain ⟨i, hi, rfl⟩ := List.mem_take_iff_getElem.mp ha
    exact (h i (by omega)).mpr (by omega)
  have hdrop : (l.drop n).countP p = 0 := by
    refine List.countP_eq_zero.mpr fun a ha => ?_
    obtain ⟨i, hi, rfl⟩ := List.mem_drop_iff_getElem.mp ha
    rw [h (n + i) (by omega)]
    omega
  calc l.countP p = (l.take n).countP p + (l.drop n).countP p := by rw [← List.countP_append, List.take_append_drop]
    _ = n := by rw [htake, hdrop, Nat.add_zero, List.length_take_of_le hn]

/-- The entries at or below a reading are as many as its percentage. -/
theorem countP_pctStarts (mv : Int) : pctStarts.countP (fun a => decide (a ≤ mv)) = (curve mv).toNat := by
  refine countP_eq_of_holds_iff_lt ?bound fun k hk => ?entry
  case bound =>
    rw [pctStarts_length]
    exact Int.toNat_le.mpr (curve_le mv)
  case entry => rw [decide_eq_true_iff, pctStarts_le_iff mv hk, Int.lt_toNat]

/-- Settles O21: the entries counted are as many as the curve gives. -/
theorem romAgreesWithCurve : Obligations.RomAgreesWithCurve := by
  intro v
  rw [estPctRom, countP_pctStarts, ← estPct_toNat, Int.toNat_natCast, BitVec.ofNat_toNat, BitVec.setWidth_eq]

/-! ### Scaling a raw code (R131) -/

/-- R6's constraints on the resolution and on the scaled magnitude. -/
theorem adc_constraints {p : Params} (h : p.ok = true) :
    1 ≤ p.adcResBits ∧ p.adcResBits ≤ 15 ∧
      32768 * p.adcRefMv * p.adcDivider / (2 ^ p.adcResBits - 1) < 2 ^ 31 := by
  simp only [Params.ok, Bool.and_eq_true, decide_eq_true_eq] at h
  obtain ⟨⟨⟨⟨⟨-, hmin⟩, hmax⟩, -⟩, -⟩, hfits⟩ := h
  exact ⟨hmin, hmax, hfits⟩

/-- Full scale is a positive code that an int16 holds. -/
theorem fullScale_bounds {p : Params} (h : p.ok = true) : 0 < 2 ^ p.adcResBits - 1 ∧ 2 ^ p.adcResBits ≤ 2 ^ 15 := by
  obtain ⟨hmin, hmax, -⟩ := adc_constraints h
  have hlow : 2 ^ 1 ≤ 2 ^ p.adcResBits := Nat.pow_le_pow_right (by decide) hmin
  exact ⟨by omega, Nat.pow_le_pow_right (by decide) hmax⟩

theorem fullScale_cast (n : Nat) : (2 ^ n - 1 : Int) = ((2 ^ n - 1 : Nat) : Int) := by
  rw [Nat.cast_sub Nat.one_le_two_pow]
  norm_cast

/-- R6's last constraint is on the largest magnitude an int16 code has. -/
theorem natAbs_rawToMvExact_lt {p : Params} (h : p.ok = true) (raw : BitVec 16) :
    (rawToMvExact p raw).natAbs < 2 ^ 31 := by
  obtain ⟨-, -, hfits⟩ := adc_constraints h
  have hraw : raw.toInt.natAbs ≤ 32768 := by
    have hlow := raw.le_toInt
    have hhigh := raw.toInt_lt
    omega
  calc (rawToMvExact p raw).natAbs
      = raw.toInt.natAbs * p.adcRefMv * p.adcDivider / (2 ^ p.adcResBits - 1) := by
        rw [rawToMvExact, Int.natAbs_tdiv, fullScale_cast, Int.natAbs_mul, Int.natAbs_mul]
        rfl
    _ ≤ 32768 * p.adcRefMv * p.adcDivider / (2 ^ p.adcResBits - 1) := by gcongr
    _ < 2 ^ 31 := hfits

/-- R131, R137: admissible parameters leave no wrap-around. -/
theorem rawToMv_toInt {p : Params} (h : p.ok = true) (raw : BitVec 16) :
    (rawToMv p raw).toInt = rawToMvExact p raw := by
  have hfits := natAbs_rawToMvExact_lt h raw
  exact BitVec.toInt_ofInt_eq_self (by decide) (by omega) (by omega)

/-- R131: the divisor itself, as a code, cancels. -/
theorem rawToMvExact_fullScale {p : Params} (h : p.ok = true) :
    rawToMvExact p (BitVec.ofNat 16 (2 ^ p.adcResBits - 1)) = p.adcRefMv * p.adcDivider := by
  obtain ⟨hpos, hmax⟩ := fullScale_bounds h
  have hnat : (BitVec.ofNat 16 (2 ^ p.adcResBits - 1)).toNat = 2 ^ p.adcResBits - 1 := by
    rw [BitVec.toNat_ofNat, Nat.mod_eq_of_lt (by omega)]
  rw [rawToMvExact, BitVec.toInt_eq_toNat_of_lt (by omega), hnat, fullScale_cast, mul_assoc,
    Int.mul_tdiv_cancel_left _ (by omega)]

/-- Settles O23: the quotient fits 32 bits, and full scale is the divisor. -/
theorem rawToMvIsExactQuotient : Obligations.RawToMvIsExactQuotient :=
  fun _ h => ⟨rawToMv_toInt h, (rawToMv_toInt h _).trans (rawToMvExact_fullScale h)⟩

/-! ### One sample (R130, R138, R180) -/

/-- An answered call draws one choice and enters the history; nothing stays outstanding. -/
theorem State.call_of_answered {c : Call} (h : (s.drawAt 0).reply ≠ .never) :
    s.call c = { s with
      now := s.now + (s.drawAt 0).elapsed
      physReg := (s.drawAt 0).rewrite.getD s.physReg
      script := s.script.tail
      drawn := s.drawn + 1
      trace := ⟨c, (s.drawAt 0).reply, s.now + (s.drawAt 0).elapsed⟩ :: s.trace } := by
  rw [State.call, if_neg h]
  rfl

theorem exec_readMv_ok (h : (s.drawAt 0).reply = .ok) :
    exec .readMv s
      = .next ((s.call (adcCall s.params)).respond .ok (0#40 ++ rawToMv s.params (s.drawAt 0).raw)) := by
  have hdata : dataOf (rawToMv s.params (s.drawAt 0).raw) = 0#40 ++ rawToMv s.params (s.drawAt 0).raw :=
    BitVec.setWidth_eq_append (by decide)
  rw [← hdata]
  exact congrArg _ (State.ask_ok h)

theorem exec_readMv_fail (h : (s.drawAt 0).reply = .fail) :
    exec .readMv s = .next ((s.call (adcCall s.params)).reject .adcFailed) :=
  congrArg _ (State.ask_fail h)

/-- Settles O22: one call is made, and its answer chooses the response. -/
theorem readMvAnswersOneScaledSample : Obligations.ReadMvAnswersOneScaledSample := by
  intro s hanswered
  cases hreply : (s.drawAt 0).reply with
  | never => exact absurd hreply hanswered
  | ok =>
    rw [exec_readMv_ok hreply, State.call_of_answered hanswered, hreply, if_pos rfl]
    rfl
  | fail =>
    rw [exec_readMv_fail hreply, State.call_of_answered hanswered, hreply, if_neg (by decide)]
    rfl

end Sys2Proof.Machine
end

section
/-! The phases of the sequencer, one equation for each thing a phase does on its turn (R150-R165). -/

namespace Sys2Proof.Machine

variable {s : State} {r : Response}

/-! ### The lines of `ENCODING` (R160) -/

theorem seqExchange_no_response {i : Instr} {done : Data → State} (hr : s.rsp = none) :
    seqExchange s i done = .next (s.issue i) := by
  simp only [seqExchange, hr]

theorem seqExchange_ok {i : Instr} {done : Data → State} (hr : s.rsp = some r) (hs : r.status = .ok) :
    seqExchange s i done = .next (done r.data) := by
  simp only [seqExchange, hr, if_pos hs]

theorem seqStep_lux {m : BitVec 64} (hph : s.phase = .encoding) (he : s.enc = .lux) (hm : s.sLux = some m) :
    seqStep s = seqExchange s (.encLux m) fun d => s.enterEnc (.percent (dataCentilux d)) := by
  simp only [seqStep, hph, seqEncoding, he, hm]

theorem seqStep_lux_stored (hph : s.phase = .encoding) (he : s.enc = .lux) (hm : s.sLux = none) :
    seqStep s = .next (s.enterEnc (.percent s.storedLux)) := by
  simp only [seqStep, hph, seqEncoding, he, hm]

theorem seqStep_percent {l : BitVec 24} {v : BitVec 32} (hph : s.phase = .encoding) (he : s.enc = .percent l)
    (hv : s.sMv = some v) :
    seqStep s = seqExchange s (.estPct v) fun d => s.enterEnc (.battery l (some (dataByte d))) := by
  simp only [seqStep, hph, seqEncoding, he, hv]

theorem seqStep_percent_unknown {l : BitVec 24} (hph : s.phase = .encoding) (he : s.enc = .percent l)
    (hv : s.sMv = none) : seqStep s = .next (s.enterEnc (.battery l none)) := by
  simp only [seqStep, hph, seqEncoding, he, hv]

/-- The battery byte's command: of the percentage, or of the unknown one. -/
def batteryCommand : Option Byte → Instr
  | some p => .encBatt false p
  | none => .encBatt true 0

theorem seqStep_battery {l : BitVec 24} {p : Option Byte} (hph : s.phase = .encoding) (he : s.enc = .battery l p) :
    seqStep s = seqExchange s (batteryCommand p) fun d => s.enterEnc (.build l (dataByte d)) := by
  cases p <;> simp only [seqStep, hph, seqEncoding, he, batteryCommand]

theorem seqStep_build {l : BitVec 24} {b : Byte} (hph : s.phase = .encoding) (he : s.enc = .build l b) :
    seqStep s = seqExchange s (.buildRec l b) s.storeRecord := by
  simp only [seqStep, hph, seqEncoding, he]

/-! ### A command is offered (R150) -/

/-- A phase, or a line of `ENCODING`, that has a command for the port and no response offers it. -/
theorem seqStep_of_request {i : Instr} (hi : s.request = some i) (hr : s.rsp = none) :
    seqStep s = .next (s.issue i) := by
  unfold State.request at hi
  split at hi
  next hph => cases hi; simp only [seqStep, hph, seqBoot, hr]
  next => cases hi
  next hph => cases hi; simp only [seqStep, hph, seqActivating, hr]
  next hph => cases hi; simp only [seqStep, hph, seqSamplingLux, hr]
  next hph => cases hi; simp only [seqStep, hph, seqSamplingBattery, hr]
  next hph =>
    split at hi
    next he =>
      obtain ⟨m, hm, rfl⟩ := Option.map_eq_some_iff.1 hi
      exact (seqStep_lux hph he hm).trans (seqExchange_no_response hr)
    next l he =>
      obtain ⟨v, hv, rfl⟩ := Option.map_eq_some_iff.1 hi
      exact (seqStep_percent hph he hv).trans (seqExchange_no_response hr)
    next l p he => cases hi; exact (seqStep_battery hph he).trans (seqExchange_no_response hr)
    next l he => cases hi; exact (seqStep_battery hph he).trans (seqExchange_no_response hr)
    next l b he => cases hi; exact (seqStep_build hph he).trans (seqExchange_no_response hr)
  next => cases hi
  next hph => cases hi; simp only [seqStep, hph, seqDeactivating, hr]
  next => cases hi
  next => cases hi

/-- Where no response waits, offering a command touches the command port alone. -/
theorem State.issue_of_no_response {i : Instr} (hr : s.rsp = none) :
    s.issue i = { s with cmd := some (encode i) } := by
  rw [State.issue, ← hr]

/-- Settles O44: each of the five phases has its command for the port. -/
theorem sequencerOffersItsPhasesCommand : Obligations.SequencerOffersItsPhasesCommand := by
  intro s w turn hr hw
  obtain ⟨i, hi, rfl⟩ : ∃ i, s.request = some i ∧ encode i = w := by
    simp only [List.mem_cons, List.not_mem_nil, or_false, Prod.mk.injEq] at hw
    obtain ⟨hph, rfl⟩ | ⟨hph, rfl⟩ | ⟨hph, rfl⟩ | ⟨hph, rfl⟩ | ⟨hph, rfl⟩ := hw
    · exact ⟨.init, by simp only [State.request, hph], rfl⟩
    · exact ⟨.activate, by simp only [State.request, hph], rfl⟩
    · exact ⟨.sampleLux, by simp only [State.request, hph], rfl⟩
    · exact ⟨.readMv, by simp only [State.request, hph], rfl⟩
    · exact ⟨.deactivate, by simp only [State.request, hph], rfl⟩
  rw [step_sequencerTurn turn, seqStep_of_request (s := s.tick) hi hr, State.issue_of_no_response (s := s.tick) hr]

/-! ### A response is consumed (R151, R153-R155, R163) -/

theorem seqStep_boot_ok (hph : s.phase = .boot) (hr : s.rsp = some r) (hs : r.status = .ok) :
    seqStep s = .next (s.enter .idle) := by
  simp only [seqStep, hph, seqBoot, hr, hs]

theorem seqStep_boot_failed (hph : s.phase = .boot) (hr : s.rsp = some r)
    (hs : r.status = .notReady ∨ r.status = .configFailed) : seqStep s = .next (s.enter .halted) := by
  obtain hs | hs := hs <;> simp only [seqStep, hph, seqBoot, hr, hs]

theorem seqStep_activating_ok (hph : s.phase = .activating) (hr : s.rsp = some r) (hs : r.status = .ok) :
    seqStep s = .next (s.enter .samplingLux) := by
  simp only [seqStep, hph, seqActivating, hr, hs]

theorem seqStep_activating_failed (hph : s.phase = .activating) (hr : s.rsp = some r) (hs : r.status = .writeFailed) :
    seqStep s = .next (s.enter .samplingBattery) := by
  simp only [seqStep, hph, seqActivating, hr, hs]

theorem seqStep_samplingLux (hph : s.phase = .samplingLux) (hr : s.rsp = some r) :
    seqStep s = .next (State.enter
      { s with sLux := if r.status = .ok then some (dataMicrolux r.data) else s.sLux } .samplingBattery) := by
  simp only [seqStep, hph, seqSamplingLux, hr]

theorem seqStep_samplingBattery (hph : s.phase = .samplingBattery) (hr : s.rsp = some r) :
    seqStep s = .next (State.enter
      { s with sMv := if r.status = .ok then some (dataMillivolt r.data) else s.sMv, enc := .lux } .encoding) := by
  simp only [seqStep, hph, seqSamplingBattery, hr]

theorem seqStep_deactivating (hph : s.phase = .deactivating) (hr : s.rsp = some r)
    (hs : r.status = .ok ∨ r.status = .writeFailed) : seqStep s = .next s.goToSleep := by
  obtain hs | hs := hs <;> simp only [seqStep, hph, seqDeactivating, hr, hs]

/-- Settles O45: after the step's time the phase finds the status it branches on. -/
theorem sequencerBranchesOnStatus : Obligations.SequencerBranchesOnStatus := by
  intro s r turn hr
  rw [step_sequencerTurn turn]
  refine ⟨fun hph hs => ?_, fun hph hs => ?_, fun hph hs => ?_, fun hph hs => ?_⟩
  · exact seqStep_boot_ok (s := s.tick) hph hr hs
  · exact seqStep_boot_failed (s := s.tick) hph hr hs
  · exact seqStep_activating_ok (s := s.tick) hph hr hs
  · exact seqStep_activating_failed (s := s.tick) hph hr hs

/-- Settles O47: the status says what is held, and not where the cycle goes. -/
theorem samplingNeverAbortsCycle : Obligations.SamplingNeverAbortsCycle := by
  intro s r turn hr
  rw [step_sequencerTurn turn]
  exact ⟨fun hph => seqStep_samplingLux (s := s.tick) hph hr, fun hph => seqStep_samplingBattery (s := s.tick) hph hr⟩

/-- Settles O52: both answers lead to sleep. -/
theorem deactivatingSetsWakeTime : Obligations.DeactivatingSetsWakeTime := by
  intro s r turn hph hr hs
  refine ⟨s.tick.goToSleep, ?_, rfl, rfl, rfl, rfl, rfl, rfl⟩
  rw [step_sequencerTurn turn]
  exact seqStep_deactivating (s := s.tick) hph hr hs

/-! ### The phases that have no command for the port (R152, R162, R164) -/

theorem seqStep_idle (hph : s.phase = .idle) :
    seqStep s = .next (State.enter { s with sLux := none, sMv := none } .activating) := by
  simp only [seqStep, hph, seqIdle]

theorem seqStep_publishing (hph : s.phase = .publishing) :
    seqStep s
      = .next (s.ask (.publish s.recordBytes) (fun t => t.enter .deactivating) fun t => t.enter .deactivating) := by
  simp only [seqStep, hph, seqPublishing]

theorem seqStep_sleeping (hph : s.phase = .sleeping) :
    seqStep s = .next (if s.tWake ≤ s.now then s.enter .idle else s) := by
  simp only [seqStep, hph, seqSleeping]

/-- Settles O46: `IDLE` looks at nothing. -/
theorem idleClearsSamples : Obligations.IdleClearsSamples := by
  intro s turn hph
  rw [step_sequencerTurn turn]
  exact seqStep_idle (s := s.tick) hph

/-- A call that goes on in the same way after either answer. -/
theorem State.ask_answered {c : Call} {done : State → State} (h : (s.drawAt 0).reply ≠ .never) :
    s.ask c done done = done (s.call c) :=
  State.ask_cases (P := fun t => t = done (s.call c)) (fun _ => rfl) (fun _ => rfl) fun hnever => absurd hnever h

theorem State.recordBytes_eq_list (s : State) :
    s.recordBytes = [s.recordByte 0, s.recordByte 1, s.recordByte 2, s.recordByte 3, s.recordByte 4, s.recordByte 5,
      s.recordByte 6, s.recordByte 7, s.recordByte 8] := rfl

@[simp] theorem State.recordByte_enter (ph : Phase) (k : Fin 9) : (s.enter ph).recordByte k = s.recordByte k := rfl

@[simp] theorem State.recordByte_call (c : Call) (k : Fin 9) : (s.call c).recordByte k = s.recordByte k := rfl

/-- Settles O51: either answer of the publisher leads to `DEACTIVATING`. -/
theorem publishingHandsOverRecord : Obligations.PublishingHandsOverRecord := by
  intro s turn hph hreply
  rw [← State.drawAt_tick s 0] at hreply ⊢
  refine ⟨(s.tick.call (.publish s.tick.recordBytes)).enter .deactivating, ?_, ?_⟩
  · rw [step_sequencerTurn turn, seqStep_publishing (s := s.tick) hph, State.ask_answered hreply]
  · simp [State.recordBytes_eq_list]

/-- Settles O53: the step's time has passed when the clock is compared with `t_wake`. -/
theorem sleepLastsUntilWakeTime : Obligations.SleepLastsUntilWakeTime := by
  intro s turn hph _
  refine ⟨_, (step_sequencerTurn turn).trans (seqStep_sleeping (s := s.tick) hph), ?_⟩
  split
  next hwake =>
    exact ⟨rfl, fun hlt => absurd hwake hlt.not_ge, fun _ => rfl, rfl, rfl, rfl, rfl, fun _ => rfl⟩
  next hwake =>
    exact ⟨rfl, fun _ => ⟨hph, rfl⟩, fun hle => absurd hle hwake, rfl, rfl, rfl, rfl, fun _ => rfl⟩

end Sys2Proof.Machine
end

section
/-! The order of the phases (R150, R168), and that nothing but a failed `INIT` stops the machine (R154, R160, R186). -/

namespace Sys2Proof.Machine

variable {s t : State} {r : Response}

/-! ### The phases' table (R150, R151, R153) -/

/-- The arrows between the phases. -/
def phaseArrows : List (Phase × Phase) :=
  [(.boot, .idle), (.boot, .halted), (.idle, .activating), (.activating, .samplingLux), (.activating, .samplingBattery),
    (.samplingLux, .samplingBattery), (.samplingBattery, .encoding), (.encoding, .publishing),
    (.publishing, .deactivating), (.deactivating, .sleeping), (.sleeping, .idle)]

/-- The phase stays, or follows an arrow. -/
def PhaseFollows (s t : State) : Prop := t.phase = s.phase ∨ (s.phase, t.phase) ∈ phaseArrows

theorem PhaseFollows.of_arrow {a : Phase} (hs : s.phase = a) (harrow : (a, t.phase) ∈ phaseArrows) :
    PhaseFollows s t := by
  subst hs
  exact .inr harrow

theorem seqStep_phaseFollows (h : seqStep s = .next t) : PhaseFollows s t := by
  refine seqStep_ind (P := PhaseFollows s) ?issue ?boot ?idle ?activating ?samplingLux ?samplingBattery ?keepLux ?luxBytes
    ?noPercent ?percent ?battery ?store ?publish ?sleep ?sleeping t h
  case boot =>
    rintro r ph hph - (⟨-, rfl⟩ | ⟨-, rfl⟩)
    · exact .of_arrow hph (by simp [phaseArrows])
    · exact .of_arrow hph (by simp [phaseArrows])
  case idle => intro hph; exact .of_arrow hph (by simp [phaseArrows])
  case activating =>
    rintro r ph hph - (⟨-, rfl⟩ | ⟨-, rfl⟩)
    · exact .of_arrow hph (by simp [phaseArrows])
    · exact .of_arrow hph (by simp [phaseArrows])
  case samplingLux => intro x hph; exact .of_arrow hph (by simp [phaseArrows])
  case samplingBattery => intro x hph; exact .of_arrow hph (by simp [phaseArrows])
  case store => intro l b r hph _ _ _; exact .of_arrow hph (by simp [phaseArrows])
  case publish => intro hph; exact ⟨.inl rfl, .of_arrow hph (by simp [phaseArrows])⟩
  case sleep => intro r hph _ _; exact .of_arrow hph (by simp [phaseArrows])
  case sleeping => intro hph; exact ⟨fun _ => .of_arrow hph (by simp [phaseArrows]), fun _ => .inl rfl⟩
  all_goals intros; exact .inl rfl

/-- Settles O48: of all a step can leave, only a move of the sequencer changes the phase. -/
theorem phaseFollowsItsTable : Obligations.PhaseFollowsItsTable := by
  intro s t hr ht
  refine step_ind (P := PhaseFollows s) ?reset ?busy ?illegal ?command ?waiting ?hostOffers ?sequencer t ht
  case reset => intro hreset; cases hr.symm.trans hreset
  case busy =>
    intro _ _
    exact inProgress_ind (P := PhaseFollows s) (.inl rfl) (fun _ _ _ => .inl rfl) (fun _ _ _ => .inl rfl)
  case illegal => intros; exact .inl rfl
  case command =>
    intro w i t _ _ _ _ _ ht
    exact .inl (congrArg SequencerView.phase (exec_sequencerView ht))
  case waiting => intros; exact .inl rfl
  case hostOffers => intros; exact .inl rfl
  case sequencer => intro t _ ht; exact seqStep_phaseFollows (s := s.tick) ht

/-! ### What stops the machine (R104, R154, R160) -/

/-- A phase that has no command for the port can always move, but for `HALTED`. -/
theorem seqStep_next_of_no_request (hi : s.request = none) (hh : s.phase ≠ .halted) : ∃ t, seqStep s = .next t := by
  unfold State.request at hi
  cases hph : s.phase <;> simp only [hph, reduceCtorEq] at hi
  case idle => exact ⟨_, seqStep_idle hph⟩
  case encoding =>
    split at hi
    next he => exact ⟨_, seqStep_lux_stored hph he (Option.map_eq_none_iff.1 hi)⟩
    next l he => exact ⟨_, seqStep_percent_unknown hph he (Option.map_eq_none_iff.1 hi)⟩
    all_goals cases hi
  case publishing => exact ⟨_, seqStep_publishing hph⟩
  case sleeping => exact ⟨_, seqStep_sleeping hph⟩
  case halted => exact absurd hph hh

/-- Every line of `ENCODING` goes on after a good answer. -/
theorem seqStep_encoding_next (hph : s.phase = .encoding) (hr : s.rsp = some r) (hs : r.status = .ok) :
    ∃ t, seqStep s = .next t := by
  cases he : s.enc with
  | lux =>
    cases hm : s.sLux with
    | none => exact ⟨_, seqStep_lux_stored hph he hm⟩
    | some m => exact ⟨_, (seqStep_lux hph he hm).trans (seqExchange_ok hr hs)⟩
  | percent l =>
    cases hv : s.sMv with
    | none => exact ⟨_, seqStep_percent_unknown hph he hv⟩
    | some v => exact ⟨_, (seqStep_percent hph he hv).trans (seqExchange_ok hr hs)⟩
  | battery l p => exact ⟨_, (seqStep_battery hph he).trans (seqExchange_ok hr hs)⟩
  | build l b => exact ⟨_, (seqStep_build hph he).trans (seqExchange_ok hr hs)⟩

/-- A phase goes on after each of the responses it expects. -/
theorem seqStep_next_of_expected (hr : s.rsp = some r) (h : expectedResponse s r) : ∃ t, seqStep s = .next t := by
  unfold expectedResponse at h
  cases hph : s.phase <;> simp only [hph] at h
  case boot =>
    obtain ⟨hs, -⟩ | ⟨hs, -⟩ := h
    · exact ⟨_, seqStep_boot_ok hph hr hs⟩
    · exact ⟨_, seqStep_boot_failed hph hr hs⟩
  case activating =>
    obtain ⟨hs, -⟩ | hs := h
    · exact ⟨_, seqStep_activating_ok hph hr hs⟩
    · exact ⟨_, seqStep_activating_failed hph hr hs⟩
  case samplingLux => exact ⟨_, seqStep_samplingLux hph hr⟩
  case samplingBattery => exact ⟨_, seqStep_samplingBattery hph hr⟩
  case encoding => exact seqStep_encoding_next hph hr h.1
  case deactivating => exact ⟨_, seqStep_deactivating hph hr h⟩

theorem SeqInv.seqStep_next (h : SeqInv s) (hh : s.phase ≠ .halted) : ∃ t, seqStep s = .next t := by
  rcases hr : s.rsp with _ | r
  · rcases hi : s.request with _ | i
    · exact seqStep_next_of_no_request hi hh
    · exact ⟨_, seqStep_of_request hi hr⟩
  · exact seqStep_next_of_expected hr (h.expected hr)

theorem runWord_next (s : State) (w : CmdWord) : ∃ t, runWord s w = .next t := by
  rcases hd : decode w with e | i
  · exact ⟨_, runWord_error hd⟩
  · rw [runWord_ok hd]
    exact exec_next i _

theorem hostStep_next (hf : s.ctl ≠ .fatal) (ws : List CmdWord) : ∃ t, hostStep s ws = .next t := by
  cases ws with
  | nil => exact ⟨_, if_neg hf⟩
  | cons w ws => exact ⟨_, if_neg hf⟩

/-- The step goes on, or it is the fault of a machine whose `INIT` failed. -/
def GoesOnUnlessFatal (s : State) (o : Host.Outcome State Fault Refusal) : Prop :=
  (∃ t, o = .next t) ∨ (o = .fault (.initFailed s.fatalCode) ∧ s.ctl = .fatal)

theorem Inv.driverStep (h : Inv s) : GoesOnUnlessFatal s (driverStep s) := by
  rcases hd : s.driver with _ | ws
  · have hseq := h.sequencer hd
    rw [driverStep_sequencer hd]
    split
    · exact .inl ⟨s, rfl⟩
    · by_cases hh : s.phase = .halted
      · exact .inr ⟨seqStep_halted hh, hseq.halted hh⟩
      · exact .inl (hseq.seqStep_next hh)
  · rw [driverStep_host hd]
    by_cases hf : s.ctl = .fatal
    · exact .inr ⟨hostStep_fatal hf, hf⟩
    · exact .inl (hostStep_next hf ws)

/-- Settles O59: of the ways a step can be taken, only an offered word and the driver's move can stop. -/
theorem onlyFailedInitStops : Obligations.OnlyFailedInitStops := by
  intro s h
  refine step_cases (P := GoesOnUnlessFatal s) ?reset ?busy ?offered ?offered_fatal ?driver
  case reset => intro _; exact .inl ⟨_, rfl⟩
  case busy => intro _ _; exact .inl ⟨_, rfl⟩
  case offered => intro w _ _ _ _; exact .inl (runWord_next s.tick w)
  case offered_fatal => intro w _ _ hf _; exact .inr ⟨rfl, hf⟩
  case driver => intro _ _ _; exact h.tick.driverStep

end Sys2Proof.Machine
end

section
/-! The whole of `ENCODING` (R160, R161): what each of its lines does, and the record it leaves. -/

namespace Sys2Proof.Machine

variable {s t u : State}

/-! ### Runs of `ENCODING`'s steps -/

/-- The registers that no step of `ENCODING` changes. -/
structure EncodingView where
  ctl : Ctl
  pstate : PState
  cache : Option (BitVec 16)
  sLux : Option (BitVec 64)
  sMv : Option (BitVec 32)
  params : Params
  trace : List Event

/-- The view of a state, field by field. -/
def State.encodingView (s : State) : EncodingView where
  ctl := s.ctl
  pstate := s.pstate
  cache := s.cache
  sLux := s.sLux
  sMv := s.sMv
  params := s.params
  trace := s.trace

/-- `n` steps lead from `s` to `t`; each draws one choice, for its time, and changes none of the registers of the view. -/
structure EncodingRun (n : Nat) (s t : State) : Prop where
  reaches : Host.Core.run Sys2Proof.core n s = .next t
  view : t.encodingView = s.encodingView
  now : s.now ≤ t.now
  draws : ∀ k, t.drawAt k = s.drawAt (n + k)
  physReg : s.quietFor n → t.physReg = s.physReg

theorem run_add {n m : Nat} (h : Host.Core.run Sys2Proof.core n s = .next t) :
    Host.Core.run Sys2Proof.core (n + m) s = Host.Core.run Sys2Proof.core m t := by
  induction n generalizing s with
  | zero => cases h; rw [Nat.zero_add]
  | succ n ih =>
    rcases hstep : step s with u | e | e
    · rw [run_succ_of_step n hstep] at h
      rw [Nat.succ_add, run_succ_of_step (n + m) hstep, ih h]
    all_goals
      have hcore : Sys2Proof.core.step s = step s := rfl
      simp [Host.Core.run, hcore, hstep] at h

theorem EncodingRun.trans {n m : Nat} (h : EncodingRun n s t) (h' : EncodingRun m t u) : EncodingRun (n + m) s u where
  reaches := (run_add h.reaches).trans h'.reaches
  view := h'.view.trans h.view
  now := h.now.trans h'.now
  draws k := by rw [h'.draws, h.draws, Nat.add_assoc]
  physReg hq := by
    have hfirst : s.quietFor n := fun k hk => hq k (by omega)
    have hrest : t.quietFor m := fun k hk => by rw [h.draws]; exact hq (n + k) (by omega)
    exact (h'.physReg hrest).trans (h.physReg hfirst)

/-- A step that adds nothing to the environment's part of the step's time. -/
theorem EncodingRun.of_step (h : step s = .next t) (view : t.encodingView = s.encodingView)
    (now : t.now = s.tick.now) (physReg : t.physReg = s.tick.physReg) (draws : ∀ k, t.drawAt k = s.tick.drawAt k) :
    EncodingRun 1 s t where
  reaches := run_succ_of_step 0 h
  view := view
  now := now ▸ Nat.le_add_right _ _
  draws k := by rw [draws, State.drawAt_tick, Nat.add_comm]
  physReg hq := by rw [physReg, State.tick_physReg, hq 0 (by omega)]; rfl

/-! ### A line and its command -/

/-- It is the sequencer's turn at line `e` of `ENCODING`. -/
structure AtLine (s : State) (e : EncStep) : Prop where
  turn : s.sequencerTurn
  not_fatal : s.ctl ≠ .fatal
  phase : s.phase = .encoding
  enc : s.enc = e
  canonical : Memory.wf s.params s.record = true

/-- The state once a pure command of the sequencer is answered with `d`: a step offered it, a step carried it out. -/
def State.exchanged (s : State) (i : Instr) (d : Data) : State :=
  { s.tick.tick with cur := encode i, rsp := some ⟨.ok, d⟩ }

/-- The command is answered well with `d`, and touches nothing else, in every state with these parameters. -/
def AnswersPurely (p : Params) (i : Instr) (d : Data) : Prop :=
  ∀ u : State, u.params = p → exec i u = .next (u.respond .ok d)

@[simp] theorem State.drawAt_issue (i : Instr) (n : Nat) : (s.issue i).drawAt n = s.drawAt n := rfl

theorem step_issue {i : Instr} (turn : s.sequencerTurn) (hr : s.rsp = none) (hi : s.request = some i) :
    step s = .next (s.tick.issue i) :=
  (step_sequencerTurn turn).trans (seqStep_of_request (s := s.tick) hi hr)

/-- The step after a pure command was offered carries it out. -/
theorem step_issued {i : Instr} {d : Data} (turn : s.sequencerTurn) (hf : s.ctl ≠ .fatal)
    (hpure : AnswersPurely s.params i d) : step (s.tick.issue i) = .next (s.exchanged i d) := by
  obtain ⟨hr, hb, hc, -, -⟩ := turn
  have hexec := hpure ((s.tick.issue i).tick.accept (encode i)) rfl
  rw [step_offered (s := s.tick.issue i) hr hb hf (State.issue_cmd s.tick i), runWord_ok (decode_encode i), hexec]
  refine congrArg Host.Outcome.next ?_
  apply State.ext
  all_goals simp [State.exchanged, hb, hc]

variable {e e' : EncStep}

theorem AtLine.exchanged (h : AtLine s e) (i : Instr) (d : Data) : AtLine (s.exchanged i d) e := { h with }

theorem AtLine.enterEnc (h : AtLine s e) (e' : EncStep) : AtLine (s.tick.enterEnc e') e' := { h with enc := rfl }

theorem AtLine.exchange {i : Instr} {d : Data} (h : AtLine s e) (hr : s.rsp = none) (hi : s.request = some i)
    (hpure : AnswersPurely s.params i d) : EncodingRun 2 s (s.exchanged i d) := by
  have hissue : EncodingRun 1 s (s.tick.issue i) :=
    .of_step (step_issue h.turn hr hi) rfl rfl rfl fun _ => rfl
  have hanswer : EncodingRun 1 (s.tick.issue i) (s.exchanged i d) :=
    .of_step (step_issued h.turn h.not_fatal hpure) rfl rfl rfl fun _ => rfl
  exact hissue.trans hanswer

/-- A line that is over: the step goes on to the next line. -/
theorem AtLine.next_of_step (h : AtLine s e) (hseq : seqStep s.tick = .next (s.tick.enterEnc e')) :
    ∃ t, EncodingRun 1 s t ∧ AtLine t e' ∧ t.rsp = none :=
  ⟨_, .of_step ((step_sequencerTurn h.turn).trans hseq) rfl rfl rfl fun _ => rfl, h.enterEnc e', rfl⟩

/-- A line with a command: it is offered, carried out, and its answer leads on to the next line. -/
theorem AtLine.next_of_exchange {i : Instr} {d : Data} {next : Data → EncStep} (h : AtLine s e) (hr : s.rsp = none)
    (hi : s.request = some i) (hpure : AnswersPurely s.params i d)
    (hseq : seqStep (s.exchanged i d).tick
      = seqExchange (s.exchanged i d).tick i fun d => (s.exchanged i d).tick.enterEnc (next d)) :
    ∃ t, EncodingRun 3 s t ∧ AtLine t (next d) ∧ t.rsp = none := by
  obtain ⟨t, hrun, ht⟩ := (h.exchanged i d).next_of_step (hseq.trans (seqExchange_ok rfl rfl))
  exact ⟨t, (h.exchange hr hi hpure).trans hrun, ht⟩

/-! ### The four lines -/

/-- The lux bytes of the next record (R160): of the sample, or those the record has. -/
def State.nextLux (s : State) : BitVec 24 := (s.sLux.map encLux).getD s.storedLux

theorem AtLine.lux (h : AtLine s .lux) (hr : s.rsp = none) :
    ∃ t, EncodingRun (if s.sLux.isSome then 3 else 1) s t ∧ AtLine t (.percent s.nextLux) ∧ t.rsp = none := by
  cases hm : s.sLux with
  | none =>
    have hnext : s.nextLux = s.storedLux := by simp [State.nextLux, hm]
    rw [hnext]
    exact h.next_of_step (seqStep_lux_stored (s := s.tick) h.phase h.enc hm)
  | some m =>
    have hnext : s.nextLux = dataCentilux (dataOf (encLux m)) := by simp [State.nextLux, hm]
    have hi : s.request = some (.encLux m) := by simp [State.request, h.phase, h.enc, hm]
    have hpure : AnswersPurely s.params (.encLux m) (dataOf (encLux m)) := fun _ _ => rfl
    rw [hnext]
    exact h.next_of_exchange hr hi hpure (seqStep_lux (s := (s.exchanged _ _).tick) h.phase h.enc hm)

theorem AtLine.percent {l : BitVec 24} (h : AtLine s (.percent l)) (hr : s.rsp = none) :
    ∃ t, EncodingRun (if s.sMv.isSome then 3 else 1) s t ∧ AtLine t (.battery l (s.sMv.map estPct)) ∧
      t.rsp = none := by
  cases hv : s.sMv with
  | none => exact h.next_of_step (seqStep_percent_unknown (s := s.tick) h.phase h.enc hv)
  | some v =>
    have hi : s.request = some (.estPct v) := by simp [State.request, h.phase, h.enc, hv]
    have hpure : AnswersPurely s.params (.estPct v) (dataOf (estPct v)) := fun _ _ => rfl
    rw [Option.map_some, ← dataByte_dataOf (estPct v)]
    exact h.next_of_exchange hr hi hpure (seqStep_percent (s := (s.exchanged _ _).tick) h.phase h.enc hv)

/-- The battery byte of the next record (R84): the percentage as it stands, or the byte that means unknown. -/
def batteryByte (pct : Option Byte) : Byte := pct.getD Config.battUnknown

theorem batteryCommand_answers {p : Params} {pct : Option Byte} (hpct : ∀ b, pct = some b → b.toNat ≤ 100) :
    AnswersPurely p (batteryCommand pct) (dataOf (batteryByte pct)) := by
  intro u _
  cases pct with
  | none => exact exec_encBatt_wellFormed rfl
  | some b => exact exec_encBatt_wellFormed (by simpa [Instr.wellFormed] using hpct b rfl)

theorem AtLine.battery {l : BitVec 24} {pct : Option Byte} (h : AtLine s (.battery l pct)) (hr : s.rsp = none)
    (hpct : ∀ b, pct = some b → b.toNat ≤ 100) :
    ∃ t, EncodingRun 3 s t ∧ AtLine t (.build l (batteryByte pct)) ∧ t.rsp = none := by
  have hi : s.request = some (batteryCommand pct) := by
    cases pct <;> simp [State.request, h.phase, h.enc, batteryCommand]
  rw [← dataByte_dataOf (batteryByte pct)]
  exact h.next_of_exchange hr hi (batteryCommand_answers hpct)
    (seqStep_battery (s := (s.exchanged _ _).tick) h.phase h.enc)

/-- `PUBLISHING` is the sequencer's next move, with the bytes of `d` as the record. -/
structure RecordReady (t : State) (d : Data) : Prop where
  turn : t.sequencerTurn
  phase : t.phase = .publishing
  no_response : t.rsp = none
  record : ∀ k : Fin 9, t.recordByte k = recordByteOf d k

@[simp] theorem State.drawAt_storeRecord (d : Data) (n : Nat) : (s.storeRecord d).drawAt n = s.drawAt n := rfl

theorem State.recordByte_storeRecord (hm : Memory.wf s.params s.record = true) (d : Data) (k : Fin 9) :
    (s.storeRecord d).recordByte k = recordByteOf d k :=
  State.recordByte_writeRecord hm d k

/-- The answer to `BUILD_REC` is stored, and the phase ends. -/
theorem AtLine.store {l : BitVec 24} {b : Byte} {d : Data} (h : AtLine s (.build l b)) (hr : s.rsp = some ⟨.ok, d⟩) :
    ∃ t, EncodingRun 1 s t ∧ RecordReady t d := by
  have hseq : seqStep s.tick = .next (s.tick.storeRecord d) := by
    rw [seqStep_build (s := s.tick) h.phase h.enc, seqExchange_ok (s := s.tick) hr rfl]
  have hrun : EncodingRun 1 s (s.tick.storeRecord d) :=
    .of_step ((step_sequencerTurn h.turn).trans hseq) (by simp [State.encodingView]) (by simp) (by simp) (by simp)
  refine ⟨s.tick.storeRecord d, hrun, ?_, rfl, rfl, ?_⟩
  · simpa [State.sequencerTurn] using h.turn
  · exact State.recordByte_storeRecord (s := s.tick) h.canonical d

theorem AtLine.build {l : BitVec 24} {b : Byte} (h : AtLine s (.build l b)) (hr : s.rsp = none) :
    ∃ t, EncodingRun 3 s t ∧ RecordReady t (buildRec s.params l b) := by
  have hi : s.request = some (.buildRec l b) := by simp [State.request, h.phase, h.enc]
  have hpure : AnswersPurely s.params (.buildRec l b) (buildRec s.params l b) := by
    intro u hu
    rw [← hu]
    rfl
  obtain ⟨t, hrun, ht⟩ := (h.exchanged (.buildRec l b) (buildRec s.params l b)).store rfl
  exact ⟨t, (h.exchange hr hi hpure).trans hrun, ht⟩

/-! ### The whole phase -/

/-- The record of the cycle (R160): built of the two samples, or of what stands in for them. -/
def State.nextRecord (s : State) : Data := buildRec s.params s.nextLux (batteryByte (s.sMv.map estPct))

/-- The lines one after another, from the first to `PUBLISHING`. -/
theorem AtLine.whole_phase (h : AtLine s .lux) (hr : s.rsp = none) :
    ∃ t, EncodingRun ((if s.sLux.isSome then 3 else 1) + (if s.sMv.isSome then 3 else 1) + 6) s t ∧
      RecordReady t s.nextRecord := by
  obtain ⟨s₁, hlux, h₁, hr₁⟩ := h.lux hr
  have hmv : s₁.sMv = s.sMv := congrArg EncodingView.sMv hlux.view
  obtain ⟨s₂, hpercent, h₂, hr₂⟩ := h₁.percent hr₁
  rw [hmv] at hpercent h₂
  have hpct : ∀ b, s.sMv.map estPct = some b → b.toNat ≤ 100 := by
    intro b hb
    obtain ⟨v, -, rfl⟩ := Option.map_eq_some_iff.1 hb
    exact estPct_toNat_le v
  obtain ⟨s₃, hbattery, h₃, hr₃⟩ := h₂.battery hr₂ hpct
  have hparams : s₃.params = s.params :=
    congrArg EncodingView.params ((hlux.trans hpercent).trans hbattery).view
  obtain ⟨t, hbuild, ht⟩ := h₃.build hr₃
  rw [hparams] at ht
  exact ⟨t, (hlux.trans hpercent).trans (hbattery.trans hbuild), ht⟩

/-- A value of 24 bits is its three bytes put together. -/
theorem append_three_bytes (l : BitVec 24) : l.extractLsb' 16 8 ++ l.extractLsb' 8 8 ++ l.extractLsb' 0 8 = l := by
  rw [BitVec.extractLsb'_append_extractLsb'_eq_extractLsb' (by rfl),
    BitVec.extractLsb'_append_extractLsb'_eq_extractLsb' (by rfl)]
  simp

/-- The bytes of a built record that was stored (R41, R87), offset by offset. -/
theorem RecordReady.bytes {p : Params} {l : BitVec 24} {b : Byte} (h : RecordReady t (buildRec p l b)) :
    t.recordByte 0 = p.serviceId.extractLsb' 0 8 ∧ t.recordByte 1 = p.serviceId.extractLsb' 8 8 ∧
      t.recordByte 2 = 0x40 ∧ t.recordByte 3 = 0x05 ∧ t.recordByte 4 = l.extractLsb' 0 8 ∧
      t.recordByte 5 = l.extractLsb' 8 8 ∧ t.recordByte 6 = l.extractLsb' 16 8 ∧ t.recordByte 7 = 0x01 ∧
      t.recordByte 8 = b := by
  have hbytes : [0, 1, 2, 3, 4, 5, 6, 7, 8].map t.recordByte = recordBytesOf (buildRec p l b) := by
    rw [funext h.record]
    rfl
  rw [recordBytesOf_buildRec] at hbytes
  simpa using hbytes

/-- The stored lux value has the record's bytes 4, 5 and 6, the low one first (R160). -/
theorem State.bytes_of_storedLux (s : State) :
    s.storedLux.extractLsb' 0 8 = s.recordByte 4 ∧ s.storedLux.extractLsb' 8 8 = s.recordByte 5 ∧
      s.storedLux.extractLsb' 16 8 = s.recordByte 6 := by
  simp (disch := decide) only [State.storedLux, BitVec.extractLsb'_append_eq_of_le,
    BitVec.extractLsb'_append_eq_of_add_le]
  simp

/-- Settles O49: the steps reach `PUBLISHING` with the record built, whose fields are read back from its bytes. -/
theorem encodingBuildsAndStoresRecord : Obligations.EncodingBuildsAndStoresRecord := by
  intro s turn hf hph he hr hwf
  obtain ⟨t, hrun, hready⟩ := AtLine.whole_phase ⟨turn, hf, hph, he, hwf⟩ hr
  obtain ⟨-, hbusy, hcmd, -, -⟩ := hready.turn
  obtain ⟨hctl, hpower, hcache, hlux, hmv, -, htrace⟩ := EncodingView.mk.inj hrun.view
  obtain ⟨h0, h1, h2, h3, h4, h5, h6, h7, h8⟩ := hready.bytes
  have hstored : t.storedLux = s.nextLux := by rw [State.storedLux, h4, h5, h6, append_three_bytes]
  refine ⟨t, hrun.reaches, hready.phase, hready.no_response, hcmd, hbusy, fun m hm => ?freshLux, fun hm => ?staleLux,
    fun v hv => ?percent, fun hv => ?unknown, h0, h1, h2, h3, h7, hctl, hpower, hcache, hrun.now, hrun.physReg, htrace,
    hlux, hmv⟩
  case freshLux => simp [hstored, State.nextLux, hm]
  case staleLux =>
    have hnext : s.nextLux = s.storedLux := by simp [State.nextLux, hm]
    rw [h4, h5, h6, hnext]
    exact s.bytes_of_storedLux
  case percent => simp [h8, hv, batteryByte]
  case unknown => simp [h8, hv, batteryByte, Config.battUnknown]

end Sys2Proof.Machine
end

section
/-! Precise errors (R180, R185): what a command other than `INIT` leaves of the core where its answer is not `OK`. -/

namespace Sys2Proof.Machine

variable {s t : State}

/-- The registers of the core that a command can write (R11-R15), beside those of the port. -/
structure CoreView where
  ctl : Ctl
  pstate : PState
  cache : Option (BitVec 16)
  fatalCode : BitVec 8
  wstage : WStage
  wDeadline : Nat

/-- The view of a state, field by field. -/
def State.coreView (s : State) : CoreView where
  ctl := s.ctl
  pstate := s.pstate
  cache := s.cache
  fatalCode := s.fatalCode
  wstage := s.wstage
  wDeadline := s.wDeadline

@[simp] theorem State.call_coreView (c : Call) : (s.call c).coreView = s.coreView := rfl
@[simp] theorem State.reject_coreView (st : Status) : (s.reject st).coreView = s.coreView := rfl

/-- An answer in `t` that is not `OK` ends the command with no data and the core as it was in `s`. -/
def PreciseError (s t : State) : Prop :=
  ∀ r, t.rsp = some r → r.status ≠ .ok → t.coreView = s.coreView ∧ t.busy = false ∧ r.data = 0

theorem PreciseError.of_no_response (h : t.rsp = none) : PreciseError s t := by
  intro r hr
  cases h.symm.trans hr

theorem PreciseError.respond_ok (d : Data) : PreciseError s (t.respond .ok d) := by
  rintro _ ⟨⟩ hne
  exact absurd rfl hne

theorem PreciseError.reject (st : Status) : PreciseError s (s.reject st) := by
  rintro _ ⟨⟩ -
  exact ⟨State.reject_coreView st, rfl, rfl⟩

/-- A call writes no register of the core, so that an error is precise where it is so from the call on. -/
theorem PreciseError.of_call {c : Call} (h : PreciseError (s.call c) t) : PreciseError s t := by
  simpa only [PreciseError, State.call_coreView] using h

/-- A call whose failure ends the command: the error is precise where it is so after the call that succeeded. -/
theorem PreciseError.ask {c : Call} {st : Status} {done : State → State} (hr : s.rsp = none)
    (hdone : PreciseError (s.call c) (done (s.call c))) : PreciseError s (s.ask c (fun t => t.reject st) done) :=
  .of_call (State.ask_cases (fun _ => hdone) (fun _ => .reject st) (fun _ => .of_no_response hr))

/-- `ACTIVATE` answers nothing yet once its write succeeded (R106), and `DEACTIVATE` answers `OK` (R113). -/
theorem PreciseError.writePower {i : Instr} {c v : BitVec 16} {st : Status} {done : State → State} (hr : s.rsp = none)
    (hdone : (i = .activate ∧ v = c &&& ~~~s.params.sdMask ∧ done = State.startWarmUp v) ∨
      (i = .deactivate ∧ v = c ||| s.params.sdMask ∧ done = State.powerDown v)) :
    PreciseError s (s.writePower v (fun t => t.reject st) done) := by
  obtain ⟨-, -, rfl⟩ | ⟨-, -, rfl⟩ := hdone
  · exact .ask hr (.of_no_response hr)
  · exact .ask hr (.respond_ok 0)

theorem PreciseError.sampleBody (hr : s.rsp = none) : PreciseError s s.sampleBody :=
  .ask hr (.ask hr (.respond_ok _))

theorem exec_preciseError {i : Instr} (hi : i ≠ .init) (hr : s.rsp = none) (ht : exec i s = .next t) :
    PreciseError s t := by
  refine exec_ind (P := PreciseError s) ?answer ?refuse ?init ?power ?sample ?convert t ht
  case answer => intro d _; exact .respond_ok d
  case refuse => intro st _ _; exact .reject st
  case init => intro hinit; exact absurd hinit hi
  case power => intro c v done _ _ hdone; exact .writePower hr hdone
  case sample => intro _ _ _; exact .sampleBody hr
  case convert => intro _; exact .ask hr (.respond_ok _)

/-- Settles O37: no error of a command but `INIT` comes after a write of the core, and each register named is a field of
the view. -/
theorem errorsArePrecise : Obligations.ErrorsArePrecise := by
  intro i s t r hi hnone ht hr hne
  obtain ⟨hview, hbusy, hdata⟩ := exec_preciseError hi hnone ht r hr hne
  obtain ⟨hctl, hpower, hcache, hcode, hstage, hdeadline⟩ := CoreView.mk.inj hview
  exact ⟨hctl, hpower, hcache, hcode, hstage, hdeadline, hbusy, hdata⟩

end Sys2Proof.Machine
end

section
/-! What the machine waits for: a collaborator that never answers (R221), the host (R213); and reset, which ends every wait (R210,
R211). -/

namespace Sys2Proof.Machine

variable {s t : State} {c : Call}

/-! ### Calls one after another -/

/-- The state after the calls `cs` are made, in their order. -/
def State.calls (s : State) (cs : List Call) : State := cs.foldl State.call s

@[simp] theorem State.calls_cons (c : Call) (cs : List Call) : s.calls (c :: cs) = (s.call c).calls cs := rfl

/-- What a call leaves as it is, any number of calls leave as it is. -/
theorem State.calls_keep {α : Type} {f : State → α} (keep : ∀ (s : State) (c : Call), f (s.call c) = f s) (cs : List Call) :
    f (s.calls cs) = f s := by
  induction cs generalizing s with
  | nil => rfl
  | cons c cs ih => rw [State.calls_cons, ih, keep]

theorem State.drawAt_calls (cs : List Call) (n : Nat) : (s.calls cs).drawAt n = s.drawAt (cs.length + n) := by
  induction cs generalizing s with
  | nil => rw [List.length_nil, Nat.zero_add]; rfl
  | cons c cs ih => rw [State.calls_cons, ih, State.drawAt_call, List.length_cons, Nat.add_right_comm]

theorem State.calls_drawn (cs : List Call) : (s.calls cs).drawn = s.drawn + cs.length := by
  induction cs generalizing s with
  | nil => rfl
  | cons c cs ih => rw [State.calls_cons, ih, State.call_drawn, List.length_cons, Nat.add_assoc, Nat.add_comm 1]

theorem State.calls_trace (cs : List Call) :
    (s.calls cs).trace.map Event.call = cs.reverse ++ s.trace.map Event.call := by
  induction cs generalizing s with
  | nil => rfl
  | cons c cs ih => simp [ih]

/-! ### The calls a command makes (R101, R106, R113, R115, R130) -/

/-- `t` is what is left of `s` by a meaning that asks the calls `cs` first, each after the one before it was answered well. -/
inductive Asks : State → List Call → State → Prop
  | nil {s t : State} : Asks s [] t
  | ask {s : State} {c : Call} {cs : List Call} {failed done : State → State} :
    Asks (s.call c) cs (done (s.call c)) → Asks s (c :: cs) (s.ask c failed done)

/-- Every command asks its calls. -/
theorem exec_asks (i : Instr) (s : State) : ∃ t, exec i s = .next t ∧ Asks s (s.callsOf i) t := by
  cases i with
  | init =>
    by_cases hctl : s.ctl = .uninit
    · rw [State.callsOf, if_pos hctl]
      exact ⟨_, exec_init hctl, .ask (.ask (.ask (.ask .nil)))⟩
    · rw [State.callsOf, if_neg hctl]
      exact ⟨_, rfl, .nil⟩
  | activate =>
    rw [State.callsOf]
    rcases hcache : s.readyCache with _ | v
    · exact ⟨_, rfl, .nil⟩
    · exact ⟨_, exec_activate hcache, .ask .nil⟩
  | deactivate =>
    rw [State.callsOf]
    rcases hcache : s.readyCache with _ | v
    · exact ⟨_, rfl, .nil⟩
    · exact ⟨_, exec_deactivate hcache, .ask .nil⟩
  | sampleLux =>
    by_cases hready : s.ctl = .ready ∧ s.pstate = .active
    · rw [State.callsOf, if_pos hready]
      exact ⟨_, exec_sampleLux hready.1 hready.2, .ask (.ask .nil)⟩
    · rw [State.callsOf, if_neg hready]
      exact ⟨_, rfl, .nil⟩
  | readMv => exact ⟨_, rfl, .ask .nil⟩
  | encLux m => exact ⟨_, rfl, .nil⟩
  | encBatt u p => exact ⟨_, rfl, .nil⟩
  | buildRec l b => exact ⟨_, rfl, .nil⟩
  | estPct v => exact ⟨_, rfl, .nil⟩

/-! ### A call that is never answered (R221) -/

/-- Calls answered well and then one never answered: nothing but these calls is done. -/
theorem Asks.hang {cs : List Call} {k : Nat} (h : Asks s cs t) (hc : cs[k]? = some c)
    (hok : ∀ n < k, (s.drawAt n).reply = .ok) (hnever : (s.drawAt k).reply = .never) :
    t = (s.calls (cs.take k)).call c := by
  induction h generalizing k with
  | nil => simp at hc
  | @ask s c' cs failed done _ ih =>
    cases k with
    | zero =>
      obtain rfl : c' = c := by simpa using hc
      exact State.ask_never hnever
    | succ k =>
      rw [State.ask_ok (hok 0 k.succ_pos)]
      refine ih (by simpa using hc) (fun n hn => ?_) ?_
      · rw [State.drawAt_call]; exact hok (n + 1) (by omega)
      · rw [State.drawAt_call]; exact hnever

theorem State.call_pending_of_never (h : (s.drawAt 0).reply = .never) : (s.call c).pending = some c := by
  rw [State.call_pending, if_pos h]

theorem State.inProgress_of_call (hp : s.pending.isSome = true) : s.inProgress = s := by
  rw [State.inProgress, if_pos hp]

theorem step_publish_hangs (turn : s.sequencerTurn) (hph : s.phase = .publishing) (hnever : (s.drawAt 1).reply = .never) :
    step s = .next (s.tick.call (.publish s.recordBytes)) := by
  rw [← State.drawAt_tick s 0] at hnever
  rw [step_sequencerTurn turn, seqStep_publishing (s := s.tick) hph, State.ask_never hnever, State.recordBytes_tick]

/-- A command or a sequencer whose call is outstanding only waits. -/
theorem step_hung (hr : s.resetIn = false) (hp : s.pending.isSome = true)
    (hwho : s.busy = true ∨ (s.busy = false ∧ s.cmd = none ∧ s.driver = .sequencer)) : step s = .next s.tick := by
  obtain hb | ⟨hb, hc, hd⟩ := hwho
  · rw [step_busy hr hb, State.inProgress_of_call (s := s.tick) hp]
  · rw [step_driver hr hb hc, driverStep_sequencer (s := s.tick) hd, State.tick_pending, if_pos hp]

/-- Settles O12: the command or the sequencer stops at the call, which writes no register, and then only waits. -/
theorem unansweredCallHangs : Obligations.UnansweredCallHangs := by
  refine ⟨fun i s k c hc hok hnever => ?command, fun s turn hph hnever => ?publish, fun s hr hp hwho => ?after⟩
  case command =>
    obtain ⟨t, hexec, hasks⟩ := exec_asks i s
    obtain rfl := hasks.hang hc hok hnever
    obtain ⟨hk, -⟩ := List.getElem?_eq_some_iff.1 hc
    have hlength : ((s.callsOf i).take k).length = k := List.length_take_of_le hk.le
    have hcore : ((s.calls ((s.callsOf i).take k)).call c).coreView = s.coreView :=
      State.calls_keep (fun _ => State.call_coreView) _
    obtain ⟨hctl, hpower, hcache, hcode, hstage, hdeadline⟩ := CoreView.mk.inj hcore
    refine ⟨_, hexec, State.call_pending_of_never ?_, State.calls_keep State.call_busy _, State.calls_keep State.call_cur _,
      State.calls_keep State.call_rsp _, hctl, hpower, hcache, hcode, hstage, hdeadline, ?drawn, ?trace⟩
    · rw [State.drawAt_calls, hlength]; exact hnever
    case drawn => rw [State.call_drawn, State.calls_drawn, hlength]
    case trace => simp [State.calls_trace, List.take_add_one, hc]
  case publish =>
    have ⟨_, hb, hcmd, _, _⟩ := turn
    refine ⟨_, step_publish_hangs turn hph hnever, State.call_pending_of_never ?_, hb, hcmd, hph, ?_⟩
    · rw [State.drawAt_tick]; exact hnever
    · simp
  case after => exact step_hung hr hp hwho

/-! ### The host as driver (R213) -/

theorem hostStep_offers (hf : s.ctl ≠ .fatal) (w : CmdWord) (ws : List CmdWord) :
    hostStep s (w :: ws) = .next { s with cmd := some w, driver := .host ws } := by
  rw [hostStep, if_neg hf]

theorem hostStep_waits (hf : s.ctl ≠ .fatal) : hostStep s [] = .next s := by
  rw [hostStep, if_neg hf]

/-- Settles O15: it is the host's move, after the step's time. -/
theorem hostOffersItsWords : Obligations.HostOffersItsWords := by
  refine fun s hr hb hc hf => ⟨fun w ws hd => ?offers, fun hd => ?waits⟩
  all_goals rw [step_driver hr hb hc, driverStep_host (s := s.tick) hd]
  case offers => exact hostStep_offers (s := s.tick) hf w ws
  case waits => exact hostStep_waits (s := s.tick) hf

/-! ### Reset (R210, R211) -/

/-- The nine bytes of a record that nothing was written to, by R210's table. -/
theorem State.recordBytes_of_record_nil (h : s.record = []) :
    s.recordBytes = [s.params.serviceId.extractLsb' 0 8, s.params.serviceId.extractLsb' 8 8, 0x40, 0x05,
      0x00, 0x00, 0x00, 0x01, 0xFF] := by
  simp [State.recordBytes_eq_list, State.recordByte, h, recordReset, Config.deviceInfo, Config.luxMarker,
    Config.battMarker, Config.battUnknown]

/-- Settles O54: the registers are as `resetWith` sets them, and its record lists nothing. -/
theorem resetValues : Obligations.ResetValues :=
  fun _ => ⟨rfl, rfl, rfl, rfl, rfl, rfl, rfl, rfl, rfl, rfl, rfl, State.recordBytes_of_record_nil rfl⟩

/-- Settles O55: whatever the state, such a step is a restart after the step's time. -/
theorem resetWorksFromAnyState : Obligations.ResetWorksFromAnyState := by
  intro s hr
  have hnow : s.now ≤ s.tick.restart.now := Nat.le_add_right _ _
  exact ⟨s.tick.restart, step_reset hr, rfl, rfl, rfl, rfl, rfl, rfl, rfl, rfl, rfl, rfl, rfl, rfl, hnow,
    State.recordBytes_of_record_nil (s := s.tick.restart) rfl⟩

end Sys2Proof.Machine
end
